-- ==== Sys2Proof/Word.lean ====
section
/-! DEFINITION. The word types of the block: the command word of R60, its operand bytes, the sample
address of ADDR_BITS and the sample length of LEN_BITS bits (00_scope.md R4). -/

namespace Sys2Proof

/-- One operand byte, one byte of sample memory, or a u8 or s8 register (R13, R61). -/
abbrev Byte := BitVec 8

/-- A u16 or s16 register, or the operand `h16` (R13, R61). -/
abbrev Half := BitVec 16

/-- A sample address register, ADDR_BITS = 24 bits, or the operand `imm24` (R4, R61). -/
abbrev Addr := BitVec 24

/-- A sample length register, LEN_BITS = 18 bits (R4). -/
abbrev Len := BitVec 18

/-- A command word, a response, or a u32 register (R13, R60, R67). -/
abbrev Word := BitVec 32

/-- The voice select field `vs` of a command word (R61). -/
abbrev VoiceSel := BitVec 3

end Sys2Proof
end

