-- ==== Sys2Proof/Syntax.lean ====
section
/-! DEFINITION. The 30 commands of 30_encoding.md, one constructor per row of spec/opcode_table.json,
with the operands R62 gives each. Operand bits a command ignores (R69) are decoded away: SETLEN keeps 18
bits, CLREVT two mask bits, SETCFG one bit (log 9). -/

namespace Sys2Proof

/-- A command. The global class (R64) comes first, then the voice class (R63), whose first operand is
the voice number `vs`. -/
inductive Instr where
  /-- NOP (R170). -/
  | nop
  /-- SETMVOL vol (R120). -/
  | setmvol (vol : Byte)
  /-- FADE speed, target (R121). -/
  | fade (speed target : Byte)
  /-- TICK (R130). -/
  | tick
  /-- RENDER n (R150). -/
  | render (frames : BitVec 24)
  /-- RDGLOB idx (R174). -/
  | rdglob (idx : Byte)
  /-- RESET (R175). -/
  | reset
  /-- SETCFG bits, of which bit 0 is used (R176). -/
  | setcfg (noAddBeg : Bool)
  /-- DMAOFFR v (R81). -/
  | dmaoffr (v : VoiceSel)
  /-- DMAON v (R82). -/
  | dmaon (v : VoiceSel)
  /-- SETBEG v, addr (R83). -/
  | setbeg (v : VoiceSel) (addr : Addr)
  /-- ADDBEG v, step; the step is read signed (R84). -/
  | addbeg (v : VoiceSel) (step : BitVec 24)
  /-- SETLEN v, len (R85). -/
  | setlen (v : VoiceSel) (len : Len)
  /-- ADDLEN v, step; the step is read signed (R86). -/
  | addlen (v : VoiceSel) (step : BitVec 24)
  /-- LOOPWAIT v, count (R89). -/
  | loopwait (v : VoiceSel) (count : Byte)
  /-- ADDVOL v, step; the step is read signed (R100). -/
  | addvol (v : VoiceSel) (step : Byte)
  /-- SETVOL v, vol (R101). -/
  | setvol (v : VoiceSel) (vol : Byte)
  /-- SETPER v, period (R102). -/
  | setper (v : VoiceSel) (period : Half)
  /-- ADDPER v, step; the step is read signed (R103). -/
  | addper (v : VoiceSel) (step : Half)
  /-- PORTA v, rate, dest (R110). -/
  | porta (v : VoiceSel) (rate : Byte) (dest : Half)
  /-- VIBRATO v, period, width; the width is read signed (R111). -/
  | vibrato (v : VoiceSel) (period width : Byte)
  /-- ENVELOPE v, rate, reset, target (R112). -/
  | envelope (v : VoiceSel) (rate reset target : Byte)
  /-- RESETFX v (R115). -/
  | resetfx (v : VoiceSel)
  /-- SMPLOOP v, k (R87). -/
  | smploop (v : VoiceSel) (k : BitVec 24)
  /-- ONESHOT v (R88). -/
  | oneshot (v : VoiceSel)
  /-- DMAOFF v (R92). -/
  | dmaoff (v : VoiceSel)
  /-- OSCBEG v, n, step; the step is read signed (R116). -/
  | oscbeg (v : VoiceSel) (n : Byte) (step : Half)
  /-- RDSTAT v (R171). -/
  | rdstat (v : VoiceSel)
  /-- CLREVT v, mask, of which bit 4 (EV_LOOPDONE) and bit 5 (EV_STOPPED) are used (R172). -/
  | clrevt (v : VoiceSel) (loopDone stopped : Bool)
  /-- RDREG v, idx (R173). -/
  | rdreg (v : VoiceSel) (idx : Byte)
  deriving DecidableEq, Repr

/-- The voice a voice-class command names, and `none` for the global class (R61). -/
def Instr.voice? : Instr → Option VoiceSel
  | .nop | .setmvol _ | .fade _ _ | .tick | .render _ | .rdglob _ | .reset | .setcfg _ => none
  | .dmaoffr v | .dmaon v | .setbeg v _ | .addbeg v _ | .setlen v _ | .addlen v _ | .loopwait v _
  | .addvol v _ | .setvol v _ | .setper v _ | .addper v _ | .porta v _ _ | .vibrato v _ _
  | .envelope v _ _ _ | .resetfx v | .smploop v _ | .oneshot v | .dmaoff v | .oscbeg v _ _
  | .rdstat v | .clrevt v _ _ | .rdreg v _ => some v

end Sys2Proof
end

