-- ==== Sys2Proof/WellFormed.lean ====
section
/-! DEFINITION. Which terms of `Instr` are commands of the encoding. The operand types have the widths
of R61's fields, so one check is left: a voice-class command's `vs` is 0..6, since `vs` = 7 selects the
global class (R61). A voice number an instance does not implement is well formed; the command then
executes as NOP (R61, R68). -/

namespace Sys2Proof

/-- The voice field is not the global class's 7 (R61). -/
abbrev Instr.voiceSelOk (i : Instr) : Prop := i.voice? ≠ some 7

/-- The command has an encoding. -/
abbrev Instr.WellFormed (i : Instr) : Prop := i.voiceSelOk

end Sys2Proof
end

