-- ==== Sys2Proof/Decode.lean ====
section
/-! DEFINITION. Decoding (30_encoding.md R60 to R69), byte order (20_memory.md R44) and the encoder
written from the same tables. The test `vs >= NVOICES` of R66 is made where a command reaches its voice
(`Machine.onVoice`), so decoding needs no parameter (log 6). -/

namespace Sys2Proof

/-- The field `vs = w[31:29]` (R61). -/
def vsField (w : Word) : VoiceSel := w.extractLsb' 29 3

/-- The field `op = w[28:24]` (R61). -/
def opField (w : Word) : BitVec 5 := w.extractLsb' 24 5

/-- The 24 operand bits `w[23:0]` (R61). -/
def operandField (w : Word) : BitVec 24 := w.extractLsb' 0 24

/-- The operand byte `b1`, bits 23:16 (R61). -/
def operandB1 (x : BitVec 24) : Byte := x.extractLsb' 16 8

/-- The operand byte `b2`, bits 15:8 (R61). -/
def operandB2 (x : BitVec 24) : Byte := x.extractLsb' 8 8

/-- The operand byte `b3`, bits 7:0 (R61). -/
def operandB3 (x : BitVec 24) : Byte := x.extractLsb' 0 8

/-- The operand `h16`, bits 15:0 (R61). -/
def operandH16 (x : BitVec 24) : Half := x.extractLsb' 0 16

/-- The 18 length bits of SETLEN's operand, `imm24[17:0]` (R62, R85). -/
def operandLen (x : BitVec 24) : Len := x.extractLsb' 0 18

/-- The global class, `vs = 7`: the table of R64. A reserved `op` is NOP (R66, R68). -/
def decodeGlobal (op : BitVec 5) (x : BitVec 24) : Instr :=
  match op.toNat with
  | 0x00 => .nop
  | 0x01 => .setmvol (operandB3 x)
  | 0x02 => .fade (operandB1 x) (operandB3 x)
  | 0x03 => .tick
  | 0x04 => .render x
  | 0x05 => .rdglob (operandB3 x)
  | 0x06 => .reset
  | 0x07 => .setcfg (x.getLsbD 0)
  | _ => .nop

/-- The voice class, `vs = v` in 0..6: the table of R63. A reserved `op` is NOP (R66, R68). -/
def decodeVoice (v : VoiceSel) (op : BitVec 5) (x : BitVec 24) : Instr :=
  match op.toNat with
  | 0x00 => .dmaoffr v
  | 0x01 => .dmaon v
  | 0x02 => .setbeg v x
  | 0x03 => .addbeg v x
  | 0x04 => .setlen v (operandLen x)
  | 0x05 => .addlen v x
  | 0x06 => .loopwait v (operandB3 x)
  | 0x07 => .addvol v (operandB3 x)
  | 0x08 => .setvol v (operandB3 x)
  | 0x09 => .setper v (operandH16 x)
  | 0x0A => .addper v (operandH16 x)
  | 0x0B => .porta v (operandB1 x) (operandH16 x)
  | 0x0C => .vibrato v (operandB1 x) (operandB3 x)
  | 0x0D => .envelope v (operandB1 x) (operandB2 x) (operandB3 x)
  | 0x0E => .resetfx v
  | 0x0F => .smploop v x
  | 0x10 => .oneshot v
  | 0x11 => .dmaoff v
  | 0x12 => .oscbeg v (operandB1 x) (operandH16 x)
  | 0x13 => .rdstat v
  | 0x14 => .clrevt v (x.getLsbD 4) (x.getLsbD 5)
  | 0x15 => .rdreg v (operandB3 x)
  | _ => .nop

/-- Decode of a command word: total, without state (R66). -/
def decode (w : Word) : Instr :=
  if vsField w = 7 then decodeGlobal (opField w) (operandField w)
  else decodeVoice (vsField w) (opField w) (operandField w)

/-- Why a byte sequence gives no command. -/
inductive DecodeError where
  /-- Fewer than four bytes are left: a command is one 32-bit word and has no shorter form (R60). -/
  | truncated
  deriving DecidableEq, Repr

/-- A word as the four bytes it is sent in: big-endian, the opcode byte first (R44). -/
def wordBytes (w : Word) : List Byte :=
  [w.extractLsb' 24 8, w.extractLsb' 16 8, w.extractLsb' 8 8, w.extractLsb' 0 8]

/-- The next command of a byte sequence and the bytes after it (R44, R60). -/
def decodeBytes : List Byte → Except DecodeError (Instr × List Byte)
  | b0 :: b1 :: b2 :: b3 :: rest => .ok (decode (b0 ++ b1 ++ b2 ++ b3), rest)
  | _ => .error .truncated

/-- The command word of a row of the opcode table whose `nbits` bits are `w`: the bits above are 0. -/
def tableWord (nbits w : Nat) : Word := BitVec.ofNat 32 (w % 2 ^ nbits)

/-- What the decoder reads from the bytes of a table row's word. -/
def decodeTableWord (nbits w : Nat) : Option Instr :=
  match decodeBytes (wordBytes (tableWord nbits w)) with
  | .ok (i, _) => some i
  | .error _ => none

/-- A command word from its three fields (R61). -/
def packWord (vs : VoiceSel) (op : BitVec 5) (x : BitVec 24) : Word := vs ++ op ++ x

/-- Operand bits of format B3; unused bits are written as 0 (R61, R69). -/
def formatB3 (b3 : Byte) : BitVec 24 := (0#16 : BitVec 16) ++ b3

/-- Operand bits of format H16 (R61). -/
def formatH16 (h : Half) : BitVec 24 := (0#8 : BitVec 8) ++ h

/-- Operand bits of format B1H16 (R61). -/
def formatB1H16 (b1 : Byte) (h : Half) : BitVec 24 := b1 ++ h

/-- Operand bits of format B1B2B3 (R61); format B1B3 is this one with `b2 = 0`. -/
def formatB1B2B3 (b1 b2 b3 : Byte) : BitVec 24 := b1 ++ b2 ++ b3

/-- Operand bits of SETLEN: `imm24[23:18]` written as 0 (R62, R69). -/
def formatLen (n : Len) : BitVec 24 := (0#6 : BitVec 6) ++ n

/-- The mask operand of CLREVT: EV_LOOPDONE at bit 4, EV_STOPPED at bit 5 (R172). -/
def eventMask (loopDone stopped : Bool) : Byte :=
  (0#2 : BitVec 2) ++ BitVec.ofBool stopped ++ BitVec.ofBool loopDone ++ (0#4 : BitVec 4)

/-- The operand of SETCFG: NOADDBEG at bit 0 (R176). -/
def cfgBits (noAddBeg : Bool) : Byte := (0#7 : BitVec 7) ++ BitVec.ofBool noAddBeg

/-- The command word of a command, with ignored bits written as 0 (R61 to R64, R69). -/
def encode : Instr → Word
  | .nop => packWord 7 0x00 0
  | .setmvol vol => packWord 7 0x01 (formatB3 vol)
  | .fade speed target => packWord 7 0x02 (formatB1B2B3 speed 0 target)
  | .tick => packWord 7 0x03 0
  | .render n => packWord 7 0x04 n
  | .rdglob idx => packWord 7 0x05 (formatB3 idx)
  | .reset => packWord 7 0x06 0
  | .setcfg b => packWord 7 0x07 (formatB3 (cfgBits b))
  | .dmaoffr v => packWord v 0x00 0
  | .dmaon v => packWord v 0x01 0
  | .setbeg v a => packWord v 0x02 a
  | .addbeg v d => packWord v 0x03 d
  | .setlen v n => packWord v 0x04 (formatLen n)
  | .addlen v d => packWord v 0x05 d
  | .loopwait v n => packWord v 0x06 (formatB3 n)
  | .addvol v d => packWord v 0x07 (formatB3 d)
  | .setvol v b => packWord v 0x08 (formatB3 b)
  | .setper v p => packWord v 0x09 (formatH16 p)
  | .addper v d => packWord v 0x0A (formatH16 d)
  | .porta v r d => packWord v 0x0B (formatB1H16 r d)
  | .vibrato v p d => packWord v 0x0C (formatB1B2B3 p 0 d)
  | .envelope v r n t => packWord v 0x0D (formatB1B2B3 r n t)
  | .resetfx v => packWord v 0x0E 0
  | .smploop v k => packWord v 0x0F k
  | .oneshot v => packWord v 0x10 0
  | .dmaoff v => packWord v 0x11 0
  | .oscbeg v n d => packWord v 0x12 (formatB1H16 n d)
  | .rdstat v => packWord v 0x13 0
  | .clrevt v l e => packWord v 0x14 (formatB3 (eventMask l e))
  | .rdreg v idx => packWord v 0x15 (formatB3 idx)

/-- The operand bits a global-class `op` uses (R61's formats, R176); none of a reserved `op` (R177). -/
def usedOperandsGlobal (op : BitVec 5) : Word :=
  match op.toNat with
  | 0x01 | 0x05 => 0x0000FF#32
  | 0x02 => 0xFF00FF#32
  | 0x04 => 0xFFFFFF#32
  | 0x07 => 0x000001#32
  | _ => 0

/-- The operand bits a voice-class `op` uses (R61's formats, R62's SETLEN, R172); none of a reserved
`op` (R177). -/
def usedOperandsVoice (op : BitVec 5) : Word :=
  match op.toNat with
  | 0x02 | 0x03 | 0x05 | 0x0F => 0xFFFFFF#32
  | 0x04 => 0x03FFFF#32
  | 0x06 | 0x07 | 0x08 | 0x15 => 0x0000FF#32
  | 0x09 | 0x0A => 0x00FFFF#32
  | 0x0B | 0x12 | 0x0D => 0xFFFFFF#32
  | 0x0C => 0xFF00FF#32
  | 0x14 => 0x000030#32
  | _ => 0

/-- The bits of a word its command uses: the opcode byte, and the operand bits of its format (R61). -/
def usedBits (w : Word) : Word :=
  0xFF000000#32 ||| if vsField w = 7 then usedOperandsGlobal (opField w) else usedOperandsVoice (opField w)

end Sys2Proof
end

