-- ==== Sys2Proof/Config.lean ====
section
/-! DEFINITION. The implementation parameters of 00_scope.md R4. The fixed ones are constants here; the
open ones are the record `Params`, which every instance carries unchanged (log 1). NVOICES is the number
of voices an instance has and is not repeated in the record (log 2). The spec leaves no result open, so
there is no free value (93_implementation_defined.md). -/

namespace Sys2Proof

/-- FRAC_BITS: fraction bits of the position and of the delta (R4, R14). -/
abbrev fracBits : Nat := 14

/-- VOL_MAX: the cap of a voice volume at the mixer (R4, R153). -/
abbrev volMax : Nat := 64

/-- The bits by which a full-scale product exceeds the PCM width at PCM_BITS = 0 (R162). -/
abbrev mixBits : Nat := 20

/-- The largest SMPL_SIZE, `2^24` (R4). -/
abbrev maxSmplSize : Nat := 2 ^ 24

/-- The open parameters of an instance (R4; 92_eei_decisions.md, "Open parameters"). -/
structure Params where
  /-- ROUTE: entry `v` is the channel voice `v` feeds. -/
  route : List Nat
  /-- SMPL_SIZE: the size of the sample memory in bytes. -/
  smplSize : Nat
  /-- CLOCK_HZ: the numerator constant of the period-to-delta conversion. -/
  clockHz : Nat
  /-- OUT_RATE: output frames per second. -/
  outRate : Nat
  /-- PCM_BITS: the width of an output sample. -/
  pcmBits : Nat
  deriving DecidableEq, Repr

/-- The defaults of R4 for an instance of `nv` voices: identity routing, CLOCK_HZ 3579545 (the spec's
general knowledge G1, log 10), OUT_RATE 44100, PCM_BITS 16. SMPL_SIZE has no default in the spec; the
model takes the largest (DESIGN CHOICE, log 3). -/
def Params.default (nv : Nat) : Params where
  route := List.range nv
  smplSize := maxSmplSize
  clockHz := 3579545
  outRate := 44100
  pcmBits := 16

/-- `ROUTE(v)` (R4). A voice the list does not name feeds the channel of its own number, the default
routing; in a legal instance the list names every voice (log 12). -/
def Params.routeOf (p : Params) (v : Nat) : Nat := (p.route[v]?).getD v

/-- The parameters of an instance of `nv` voices are in the ranges of R4, and R5 holds. -/
structure Params.Legal (p : Params) (nv : Nat) : Prop where
  voices : nv = 4 ∨ nv = 7
  routed : p.route.length = nv
  channels : ∀ c ∈ p.route, c < nv
  memory : p.smplSize ≤ maxSmplSize
  clock : 1 ≤ p.clockHz
  rate : 1 ≤ p.outRate
  delta : p.clockHz * 2 ^ fracBits < 2 ^ 32 * p.outRate
  width : 8 ≤ p.pcmBits ∧ p.pcmBits ≤ 20

end Sys2Proof
end

