-- ==== Sys2Proof/Machine/State.lean ====
section
/-! DEFINITION. The state (10_state.md): the per-voice register file and flags (R13, R15, R16, R17), the
global register file (R25), the instance's parameters and sample memory, which no command changes (R11,
log 1), and the interface of the block: command port, response and output (R10, R46, R67, R180; logs 4
and 5). Reset values are those of R33. -/

namespace Sys2Proof.Machine

/-- LOOP_POLICY (R16): 0 = CONTINUE, 1 = STOP. -/
inductive LoopPolicy where
  /-- "continue from loop start" -/
  | cont
  /-- "stop", one-shot -/
  | stop
  deriving DecidableEq, Repr

/-- One voice: the 25 registers of R13 in index order, then MODE, LOOP_POLICY and the event flags. -/
structure Voice where
  /-- idx 0, CUR_PERIOD u16 -/
  curPeriod : Half
  /-- idx 1, DEST_PERIOD u16 -/
  destPeriod : Half
  /-- idx 2, PORTA_RATE u8 -/
  portaRate : Byte
  /-- idx 3, VIB_PERIOD u8 -/
  vibPeriod : Byte
  /-- idx 4, VIB_PHASE u8 -/
  vibPhase : Byte
  /-- idx 5, VIB_WIDTH s8 -/
  vibWidth : Byte
  /-- idx 6, VIB_OFFSET s16 -/
  vibOffset : Half
  /-- idx 7, ENV_RATE u8 -/
  envRate : Byte
  /-- idx 8, ENV_RESET u8 -/
  envReset : Byte
  /-- idx 9, ENV_COUNT u8 -/
  envCount : Byte
  /-- idx 10, ENV_TARGET u8 -/
  envTarget : Byte
  /-- idx 11, CUR_VOL u8 -/
  curVol : Byte
  /-- idx 12, CUR_ADDR u24 -/
  curAddr : Addr
  /-- idx 13, CUR_LEN u18 -/
  curLen : Len
  /-- idx 14, SAVE_ADDR u24 -/
  saveAddr : Addr
  /-- idx 15, SAVE_LEN u18 -/
  saveLen : Len
  /-- idx 16, ABO_DELTA s16 -/
  aboDelta : Half
  /-- idx 17, ABO_RESET u8 -/
  aboReset : Byte
  /-- idx 18, ABO_COUNT u8 -/
  aboCount : Byte
  /-- idx 19, ACT_ADDR u24 -/
  actAddr : Addr
  /-- idx 20, ACT_LEN u18 -/
  actLen : Len
  /-- idx 21, POS u32 (18.14, R14) -/
  pos : Word
  /-- idx 22, DELTA u32 (18.14, R14) -/
  delta : Word
  /-- idx 23, HW_VOL u8 -/
  hwVol : Byte
  /-- idx 24, LOOP_CNT u8 -/
  loopCnt : Byte
  /-- MODE bit 0, ON (R15) -/
  on : Bool
  /-- MODE bit 1, COMMITTED (R15) -/
  committed : Bool
  /-- MODE bit 2, LOOPPEND (R15) -/
  loopPend : Bool
  /-- LOOP_POLICY (R16) -/
  loopPolicy : LoopPolicy
  /-- EV_LOOPDONE (R17) -/
  evLoopDone : Bool
  /-- EV_STOPPED (R17) -/
  evStopped : Bool
  deriving DecidableEq, Repr

/-- A voice after reset: everything 0 (R33). -/
def Voice.reset : Voice where
  curPeriod := 0
  destPeriod := 0
  portaRate := 0
  vibPeriod := 0
  vibPhase := 0
  vibWidth := 0
  vibOffset := 0
  envRate := 0
  envReset := 0
  envCount := 0
  envTarget := 0
  curVol := 0
  curAddr := 0
  curLen := 0
  saveAddr := 0
  saveLen := 0
  aboDelta := 0
  aboReset := 0
  aboCount := 0
  actAddr := 0
  actLen := 0
  pos := 0
  delta := 0
  hwVol := 0
  loopCnt := 0
  on := false
  committed := false
  loopPend := false
  loopPolicy := .cont
  evLoopDone := false
  evStopped := false

/-- The global register file (R25). -/
structure Globals where
  /-- idx 0, MASTER_VOL u8 -/
  masterVol : Byte
  /-- idx 1, FADE_SLOPE s8 -/
  fadeSlope : Byte
  /-- idx 2, FADE_TARGET u8 -/
  fadeTarget : Byte
  /-- idx 3, FADE_RESET u8 -/
  fadeReset : Byte
  /-- idx 4, FADE_COUNT u8 -/
  fadeCount : Byte
  /-- idx 5, CFG bit 0, NOADDBEG (R29) -/
  noAddBeg : Bool
  deriving DecidableEq, Repr

/-- The globals after reset: MASTER_VOL 64, the rest 0 (R33). -/
def Globals.reset : Globals where
  masterVol := 64
  fadeSlope := 0
  fadeTarget := 0
  fadeReset := 0
  fadeCount := 0
  noAddBeg := false

/-- The sample memory image as cells, in the canonical form of `Memory.wf` (R40; log 3). -/
abbrev Memory := List Host.Cell

/-- The machine. -/
structure State where
  /-- The open parameters of the instance (R4); no command changes them (R11). -/
  params : Params
  /-- SMPL, the sample memory image; no command changes it (R11, R52). -/
  smpl : Memory
  /-- The voices, NVOICES of them, voice 0 first (R13; log 2). -/
  voices : List Voice
  /-- The global register file (R25). -/
  glob : Globals
  /-- The command port: the words the host is going to issue, the next one first (R10; log 4). -/
  port : List Word
  /-- The response of the last command (R67; log 5). -/
  response : Word
  /-- What the last command wrote to OUT: for a RENDER of n > 0 frames NCHAN lists of n PCM values,
  else nothing (R46; log 5). -/
  out : List (List Int)
  deriving DecidableEq, Repr

/-- Why the machine stops with a fault: never. VRB raises no exception, every command word in every
state executes to completion (R180), so there is no constructor; nothing can raise one, which is safe. -/
inductive Fault where
  deriving DecidableEq, Repr

/-- Why a command has no meaning in the model. -/
inductive Refusal where
  /-- The command's arm in `exec` is not written yet; raised by `exec` alone, safe. No arm raises it. -/
  | notModelled (mnemonic : String)
  deriving DecidableEq, Repr

/-- What one command or one step answers. -/
abbrev Result := Host.Outcome State Fault Refusal

/-- NVOICES (R4), which is also NCHAN: the number of voices the instance has (log 2). -/
def State.nvoices (s : State) : Nat := s.voices.length

/-- The power-on state (R33, R200) of an instance with parameters `p`, `nv` voices and the sample image
`m`; the port is empty, and no command has answered or written output yet (logs 4 and 5). -/
def State.powerOn (p : Params) (nv : Nat) (m : Memory) : State where
  params := p
  smpl := m
  voices := List.replicate nv Voice.reset
  glob := Globals.reset
  port := []
  response := 0
  out := []

/-- The machine right after reset, as the default instance of R4: 4 voices, and a sample memory with
nothing listed (log 3). -/
def State.reset : State := State.powerOn (Params.default 4) 4 []

end Sys2Proof.Machine
end

