-- ==== Sys2Proof/Machine/Operands.lean ====
section
/-! DEFINITION. The arithmetic primitives of 00_scope.md R7 and R8 and the readings of operands and
registers of R62: values are exact integers, and a width applies only at a register write (R7, R220).
`zext_N` of a register is `BitVec.toNat`, `sext_N` is `BitVec.toInt`. -/

namespace Sys2Proof.Machine

/-- `trunc_N(x)`, and the write of `sext_N(x)` into an N-bit register: `x mod 2^N` (R7). -/
def trunc (n : Nat) (x : Int) : BitVec n := BitVec.ofInt n x

/-- `neg_N`: two's complement negation in N bits; the most negative value is its own (R7). -/
def negate {n : Nat} (x : BitVec n) : BitVec n := trunc n (-x.toInt)

/-- `sat(x, lo, hi)` (R7). -/
def sat (x lo hi : Int) : Int := if x < lo then lo else if hi < x then hi else x

/-- `x >> k`, floor of `x / 2^k` for any integer `x` (R7, R222). -/
def shiftRight (x : Int) (k : Nat) : Int := x / (2 ^ k : Nat)

/-- The countdown primitive `cd(count, reset) = (fire, count')` (R8). -/
def countdown (count reset : Byte) : Bool × Byte :=
  if count.toNat ≤ 1 then (true, reset) else (false, BitVec.ofNat 8 (count.toNat - 1))

/-- A register plus a signed operand or step, wrapping at the register's width (R221). -/
def addSigned {n m : Nat} (r : BitVec n) (step : BitVec m) : BitVec n :=
  trunc n ((r.toNat : Int) + step.toInt)

/-- An unsigned register as a 32-bit response (R173). -/
def respUnsigned {n : Nat} (r : BitVec n) : Word := BitVec.ofNat 32 r.toNat

/-- A signed register as a 32-bit response, sign-extended (R173). -/
def respSigned {n : Nat} (r : BitVec n) : Word := BitVec.ofInt 32 r.toInt

/-- RDREG's table: the register with index `idx` of R13, and 0 from index 25 on (R173). -/
def Voice.readReg (x : Voice) (idx : Byte) : Word :=
  match idx.toNat with
  | 0 => respUnsigned x.curPeriod
  | 1 => respUnsigned x.destPeriod
  | 2 => respUnsigned x.portaRate
  | 3 => respUnsigned x.vibPeriod
  | 4 => respUnsigned x.vibPhase
  | 5 => respSigned x.vibWidth
  | 6 => respSigned x.vibOffset
  | 7 => respUnsigned x.envRate
  | 8 => respUnsigned x.envReset
  | 9 => respUnsigned x.envCount
  | 10 => respUnsigned x.envTarget
  | 11 => respUnsigned x.curVol
  | 12 => respUnsigned x.curAddr
  | 13 => respUnsigned x.curLen
  | 14 => respUnsigned x.saveAddr
  | 15 => respUnsigned x.saveLen
  | 16 => respSigned x.aboDelta
  | 17 => respUnsigned x.aboReset
  | 18 => respUnsigned x.aboCount
  | 19 => respUnsigned x.actAddr
  | 20 => respUnsigned x.actLen
  | 21 => respUnsigned x.pos
  | 22 => respUnsigned x.delta
  | 23 => respUnsigned x.hwVol
  | 24 => respUnsigned x.loopCnt
  | _ => 0

/-- RDGLOB's table: a global register, NVOICES at index 6, and 0 from index 7 on (R174). -/
def State.readGlob (s : State) (idx : Byte) : Word :=
  match idx.toNat with
  | 0 => respUnsigned s.glob.masterVol
  | 1 => respSigned s.glob.fadeSlope
  | 2 => respUnsigned s.glob.fadeTarget
  | 3 => respUnsigned s.glob.fadeReset
  | 4 => respUnsigned s.glob.fadeCount
  | 5 => respUnsigned (BitVec.ofBool s.glob.noAddBeg)
  | 6 => BitVec.ofNat 32 s.nvoices
  | _ => 0

end Sys2Proof.Machine
end

