-- ==== Sys2Proof/Machine/Flags.lean ====
section
/-! DEFINITION. The flags of a voice: the derived predicates of R18, the status word of R19, and the
procedures that write MODE and the events (R90, R158, R160). There are no condition codes (10_state.md,
after R20). -/

namespace Sys2Proof.Machine

/-- vib_armed (R18). -/
def Voice.vibArmed (x : Voice) : Bool := x.vibPeriod != 0

/-- porta_armed (R18). -/
def Voice.portaArmed (x : Voice) : Bool := x.portaRate != 0

/-- env_armed (R18). -/
def Voice.envArmed (x : Voice) : Bool := x.envRate != 0

/-- abo_armed (R18). -/
def Voice.aboArmed (x : Voice) : Bool := x.aboReset != 0

/-- fade_armed (R27). -/
def Globals.fadeArmed (g : Globals) : Bool := g.fadeSlope != 0

/-- LOOP_POLICY as a bit: 0 = CONTINUE, 1 = STOP (R16). -/
def LoopPolicy.bit : LoopPolicy → Bool
  | .cont => false
  | .stop => true

/-- The bit `b` at position `k` of a status word. -/
def statusBit (b : Bool) (k : Nat) : Word := BitVec.ofNat 32 (b.toNat * 2 ^ k)

/-- The status word of a voice (R19). -/
def Voice.status (x : Voice) : Word :=
  statusBit x.on 0 ||| statusBit x.committed 1 ||| statusBit x.loopPend 2
    ||| statusBit x.loopPolicy.bit 3 ||| statusBit x.evLoopDone 4 ||| statusBit x.evStopped 5
    ||| statusBit x.vibArmed 8 ||| statusBit x.portaArmed 9 ||| statusBit x.envArmed 10
    ||| statusBit x.aboArmed 11

/-- The shared procedure `dma_off(v)` (R90). -/
def Voice.dmaOff (x : Voice) : Voice :=
  { x with on := false, committed := false, loopPend := false, loopCnt := 0 }

/-- `stop_voice(v)` (R160). -/
def Voice.stop (x : Voice) : Voice :=
  { x with
    on := false, committed := false, loopPend := false
    loopCnt := 0, actLen := 0, pos := 0
    evStopped := true }

/-- Loop-completion bookkeeping after a wrap that continues (R158). LOOP_CNT is at least 1 here in every
reachable state; from 0 the write wraps (log 7). -/
def Voice.countLoop (x : Voice) : Voice :=
  if x.loopPend then
    let c := trunc 8 ((x.loopCnt.toNat : Int) - 1)
    if c = 0 then { x with loopCnt := c, loopPend := false, evLoopDone := true }
    else { x with loopCnt := c }
  else x

end Sys2Proof.Machine
end

