-- ==== Sys2Proof/Machine/Ops.lean ====
section
/-! DEFINITION. The named operations the commands share: the sample memory (R40 to R43), the command
port (R10), the end of a command with its response (R67), and reaching one voice (R61, R80). The block
takes no exception (R180), so there is no operation for one. -/

namespace Sys2Proof.Machine

/-- What a byte of the sample image reads as when no cell lists it (DESIGN CHOICE, log 3). -/
def Memory.unlisted : Byte := 0

/-- The byte of the image at address `a`, `MemRead(a, 1)` (R41). -/
def Memory.read : Memory → Nat → Byte
  | [], _ => Memory.unlisted
  | (k, b) :: m, a => if k = a then b else Memory.read m a

/-- The image without a cell at address `a`. -/
def Memory.drop : Memory → Nat → Memory
  | [], _ => []
  | (k, b) :: m, a => if k = a then Memory.drop m a else (k, b) :: Memory.drop m a

/-- The image with the cell `(a, b)` put in front of the first higher address. -/
def Memory.put : Memory → Nat → Byte → Memory
  | [], a, b => [(a, b)]
  | (k, c) :: m, a, b => if a < k then (a, b) :: (k, c) :: m else (k, c) :: Memory.put m a b

/-- The image with the byte `b` at address `a`. No command writes sample memory (R40, R52): this is how
an instance's image is made before power-on. -/
def Memory.write (m : Memory) (a : Nat) (b : Byte) : Memory :=
  if b = Memory.unlisted then m.drop a else (m.drop a).put a b

/-- The image whose bytes from address `a` on are `bs`, over `m`. -/
def Memory.load (m : Memory) (a : Nat) : List Byte → Memory
  | [] => m
  | b :: bs => Memory.load (m.write a b) (a + 1) bs

/-- The canonical form: addresses strictly rising from `lo` on, and no cell that holds what an unlisted
address reads as. -/
def Memory.wfFrom (lo : Nat) : Memory → Bool
  | [] => true
  | (k, b) :: m => decide (lo ≤ k) && (b != Memory.unlisted) && Memory.wfFrom (k + 1) m

/-- The canonical form of a sample image: equal images are equal lists. -/
def Memory.wf (m : Memory) : Bool := Memory.wfFrom 0 m

/-- `SmplRead(ea)`: bounds-checked and signed; outside the sample memory it is 0 (R43). -/
def smplRead (p : Params) (m : Memory) (ea : Nat) : Int :=
  if ea < p.smplSize then (m.read ea).toInt else 0

/-- The effective address of a sample fetch, not reduced modulo `2^24` (R42). -/
def Voice.fetchAddr (x : Voice) : Nat := x.actAddr.toNat + x.pos.toNat >>> fracBits

/-- The host presents the next command word on the port (R10), and the block takes it. -/
def State.takeWord (s : State) : Option (Word × State) :=
  match s.port with
  | [] => none
  | w :: rest => some (w, { s with port := rest })

/-- The state after a command that answers `r` and writes nothing to OUT (R46, R67). -/
def State.respond (s : State) (r : Word) : State := { s with response := r, out := [] }

/-- A command that changes nothing and answers 0 (R68, R170). -/
def doNothing (s : State) : Result := .next (s.respond 0)

/-- A voice-class command that rewrites its voice with `f` and answers 0 (R80). A voice the instance
does not have makes the command NOP (R61, R68; log 6). -/
def onVoice (v : VoiceSel) (f : Voice → Voice) (s : State) : Result :=
  match s.voices[v.toNat]? with
  | some x => .next ({ s with voices := s.voices.set v.toNat (f x) }.respond 0)
  | none => doNothing s

/-- A voice-class command that answers `f` of its voice and changes nothing (R171, R173). A voice the
instance does not have makes the command NOP (R61, R68; log 6). -/
def readVoice (v : VoiceSel) (f : Voice → Word) (s : State) : Result :=
  match s.voices[v.toNat]? with
  | some x => .next (s.respond (f x))
  | none => doNothing s

/-- A global-class command that rewrites the global registers and answers 0. -/
def onGlobals (f : Globals → Globals) (s : State) : Result :=
  .next ({ s with glob := f s.glob }.respond 0)

end Sys2Proof.Machine
end

