-- ==== Sys2Proof/Machine/Window.lean ====
section
/-! DEFINITION. Voice enable and sample-window commands (40_voice_dma_sample.md), with the shared
procedure `reset_fx` of 42_effect_start.md R115 that DMAOFFR uses. -/

namespace Sys2Proof.Machine

/-- The shared procedure `reset_fx(v)` (R115). -/
def Voice.resetFx (x : Voice) : Voice :=
  { x with
    vibPeriod := 0, vibPhase := 0, vibWidth := 0, vibOffset := 0
    portaRate := 0
    envRate := 0, envReset := 0, envCount := 0, envTarget := 0
    aboDelta := 0, aboReset := 0, aboCount := 0
    curPeriod := x.destPeriod }

/-- The committed and the save start become `a` (R83, R84, R137). -/
def Voice.setStart (x : Voice) (a : Addr) : Voice := { x with curAddr := a, saveAddr := a }

/-- The committed and the save length become `n` (R85, R86). -/
def Voice.setLength (x : Voice) (n : Len) : Voice := { x with curLen := n, saveLen := n }

/-- The shrink of SMPLOOP: the start moves by `k' = min(k, SAVE_LEN)`, the length loses as much (R87). -/
def Voice.shrink (x : Voice) (k : Nat) : Voice :=
  let k' := min k x.saveLen.toNat
  (x.setStart (trunc 24 ((x.saveAddr.toNat : Int) + k'))).setLength
    (trunc 18 ((x.saveLen.toNat : Int) - k'))

/-- DMAOFFR v (R81). -/
def execDmaoffr (v : VoiceSel) (s : State) : Result := onVoice v (fun x => x.dmaOff.resetFx) s

/-- DMAON v (R82). -/
def execDmaon (v : VoiceSel) (s : State) : Result :=
  onVoice v (fun x => { x with on := true, committed := false, loopPolicy := .cont }) s

/-- SETBEG v, addr (R83). -/
def execSetbeg (v : VoiceSel) (addr : Addr) (s : State) : Result :=
  onVoice v (fun x => { x.setStart addr with aboDelta := 0, aboReset := 0, aboCount := 0 }) s

/-- ADDBEG v, step (R84); NOP with NOADDBEG = 1 (R29). -/
def execAddbeg (v : VoiceSel) (step : BitVec 24) (s : State) : Result :=
  onVoice v (fun x => if s.glob.noAddBeg then x else x.setStart (addSigned x.curAddr step)) s

/-- SETLEN v, len (R85). -/
def execSetlen (v : VoiceSel) (len : Len) (s : State) : Result :=
  onVoice v (fun x => x.setLength len) s

/-- ADDLEN v, step (R86). -/
def execAddlen (v : VoiceSel) (step : BitVec 24) (s : State) : Result :=
  onVoice v (fun x => x.setLength (addSigned x.curLen step)) s

/-- SMPLOOP v, k (R87). -/
def execSmploop (v : VoiceSel) (k : BitVec 24) (s : State) : Result :=
  onVoice v (fun x => x.shrink k.toNat) s

/-- ONESHOT v (R88). -/
def execOneshot (v : VoiceSel) (s : State) : Result :=
  onVoice v (fun x => { x with loopPolicy := .stop }) s

/-- LOOPWAIT v, count (R89). -/
def execLoopwait (v : VoiceSel) (count : Byte) (s : State) : Result :=
  onVoice v (fun x =>
    if count = 0 then { x with loopPend := false, loopCnt := 0, evLoopDone := true }
    else { x with loopPend := true, loopCnt := count }) s

/-- DMAOFF v (R92). -/
def execDmaoff (v : VoiceSel) (s : State) : Result := onVoice v (fun x => x.dmaOff) s

end Sys2Proof.Machine
end

