-- ==== Sys2Proof/Machine/Effects.lean ====
section
/-! DEFINITION. Commands that start, stop and reset effects (42_effect_start.md). They only load drive
values; the effects run in TICK. -/

namespace Sys2Proof.Machine

/-- PORTA v, rate, dest (R110). -/
def execPorta (v : VoiceSel) (rate : Byte) (dest : Half) (s : State) : Result :=
  onVoice v (fun x => { x with portaRate := rate, destPeriod := dest }) s

/-- VIBRATO v, period, width: the countdown starts at half the period (R111). -/
def execVibrato (v : VoiceSel) (period width : Byte) (s : State) : Result :=
  onVoice v (fun x =>
    { x with vibPeriod := period, vibPhase := period >>> 1, vibWidth := width, vibOffset := 0 }) s

/-- ENVELOPE v, rate, reset, target (R112). -/
def execEnvelope (v : VoiceSel) (rate reset target : Byte) (s : State) : Result :=
  onVoice v (fun x =>
    { x with envRate := rate, envReset := reset, envCount := reset, envTarget := target }) s

/-- RESETFX v (R115). -/
def execResetfx (v : VoiceSel) (s : State) : Result := onVoice v (fun x => x.resetFx) s

/-- OSCBEG v, n, step (R116); NOP with NOADDBEG = 1 (R29). -/
def execOscbeg (v : VoiceSel) (n : Byte) (step : Half) (s : State) : Result :=
  onVoice v (fun x =>
    if s.glob.noAddBeg then x else { x with aboDelta := step, aboReset := n, aboCount := n }) s

/-- SETMVOL vol: also cancels the fade (R120). -/
def execSetmvol (vol : Byte) (s : State) : Result :=
  onGlobals (fun g => { g with masterVol := vol, fadeSlope := 0, fadeCount := 0 }) s

/-- The start of the master fade (R121). -/
def Globals.startFade (g : Globals) (speed target : Byte) : Globals :=
  if speed = 0 ∨ g.masterVol = target then
    { g with masterVol := target, fadeTarget := target, fadeSlope := 0, fadeReset := 0, fadeCount := 0 }
  else
    { g with
      fadeTarget := target, fadeReset := speed, fadeCount := speed
      fadeSlope := trunc 8 (if target.toNat < g.masterVol.toNat then -1 else 1) }

/-- FADE speed, target (R121). -/
def execFade (speed target : Byte) (s : State) : Result :=
  onGlobals (fun g => g.startFade speed target) s

end Sys2Proof.Machine
end

