-- ==== Sys2Proof/Machine/Pitch.lean ====
section
/-! DEFINITION. Pitch and volume commands (41_pitch_volume.md). They write macro-side registers only;
the mixer hears them after the next TICK (R210). -/

namespace Sys2Proof.Machine

/-- Both period registers become `p` (R102, R103). -/
def Voice.setPeriod (x : Voice) (p : Half) : Voice := { x with destPeriod := p, curPeriod := p }

/-- ADDVOL v, step (R100). -/
def execAddvol (v : VoiceSel) (step : Byte) (s : State) : Result :=
  onVoice v (fun x => { x with curVol := addSigned x.curVol step }) s

/-- SETVOL v, vol (R101). -/
def execSetvol (v : VoiceSel) (vol : Byte) (s : State) : Result :=
  onVoice v (fun x => { x with curVol := vol }) s

/-- SETPER v, period (R102). -/
def execSetper (v : VoiceSel) (period : Half) (s : State) : Result :=
  onVoice v (fun x => x.setPeriod period) s

/-- ADDPER v, step: the add is to DEST_PERIOD (R103). -/
def execAddper (v : VoiceSel) (step : Half) (s : State) : Result :=
  onVoice v (fun x => x.setPeriod (addSigned x.destPeriod step)) s

end Sys2Proof.Machine
end

