-- ==== Sys2Proof/Machine/Render.lean ====
section
/-! DEFINITION. RENDER, the resampler, loop-point tracking and mixing (44_render.md). Voices are
rendered one after the other, as R150 writes it; the accumulators are unbounded integers, as R161 allows
(log 11). -/

namespace Sys2Proof.Machine

/-- Commit: the save pair becomes the active pair; a zero length stops the voice (R152). -/
def Voice.commit (x : Voice) : Voice :=
  let y := { x with actAddr := x.saveAddr, actLen := x.saveLen, pos := 0, committed := true }
  if y.actLen = 0 then y.stop else y

/-- What one frame of the voice adds to its channel's accumulator (R153). -/
def Voice.mix (p : Params) (m : Memory) (master : Byte) (x : Voice) : Int :=
  smplRead p m x.fetchAddr * (min x.hwVol.toNat volMax : Nat) * master.toNat

/-- The active window's length in position units, `ACT_LEN << 14` (R154). -/
def Voice.window (x : Voice) : Nat := x.actLen.toNat <<< fracBits

/-- The wrap with overshoot `extra`: loop policy, reload, position, loop completion (R155 to R158). -/
def Voice.wrap (x : Voice) (extra : Nat) : Voice :=
  if x.loopPolicy = .stop then x.stop
  else
    let y := { x with actAddr := x.saveAddr, actLen := x.saveLen }
    if y.window = 0 then y.stop
    else { y with pos := BitVec.ofNat 32 (if y.window ≤ extra then 0 else extra) }.countLoop

/-- Advance of the position by one frame (R154). -/
def Voice.advance (x : Voice) : Voice :=
  let p := x.pos.toNat + x.delta.toNat
  if p < x.window then { x with pos := BitVec.ofNat 32 p } else x.wrap (p - x.window)

/-- `n` frames of a voice after its commit: the voice, and what each frame adds to its channel. A voice
that is off, or was stopped in an earlier frame, adds nothing (R151, R160). -/
def Voice.frames (p : Params) (m : Memory) (master : Byte) : Nat → Voice → Voice × List Int
  | 0, x => (x, [])
  | n + 1, x =>
    if x.on then
      let r := Voice.frames p m master n x.advance
      (r.1, x.mix p m master :: r.2)
    else (x, List.replicate (n + 1) 0)

/-- `render_voice(v, n)` (R151 to R160). -/
def Voice.render (p : Params) (m : Memory) (master : Byte) (n : Nat) (x : Voice) : Voice × List Int :=
  if x.on = true ∧ x.committed = false then x.commit.frames p m master n else x.frames p m master n

/-- A voice's frames added to a channel's accumulators (R153). -/
def addFrames (row acc : List Int) : List Int := List.zipWith (· + ·) acc row

/-- The voices from number `v` on, rendered in order into the accumulators (R150, R159). -/
def renderVoices (p : Params) (m : Memory) (master : Byte) (n : Nat) :
    Nat → List Voice → List (List Int) → List Voice × List (List Int)
  | _, [], acc => ([], acc)
  | v, x :: xs, acc =>
    let r := x.render p m master n
    let rest := renderVoices p m master n (v + 1) xs (acc.modify (p.routeOf v) (addFrames r.2))
    (r.1 :: rest.1, rest.2)

/-- `narrow(a)`: floor shift and saturation to PCM_BITS (R162). -/
def narrow (pcmBits : Nat) (a : Int) : Int :=
  sat (shiftRight a (mixBits - pcmBits)) (-((2 ^ (pcmBits - 1) : Nat) : Int))
    (((2 ^ (pcmBits - 1) : Nat) : Int) - 1)

/-- The accumulators at the start of a RENDER: NCHAN rows of `n` zeros (R31, R150). -/
def zeroAccumulators (nchan n : Nat) : List (List Int) := List.replicate nchan (List.replicate n 0)

/-- RENDER n (R150); RENDER 0 is NOP (R163). -/
def execRender (frames : BitVec 24) (s : State) : Result :=
  if frames = 0 then doNothing s
  else
    let n := frames.toNat
    let r := renderVoices s.params s.smpl s.glob.masterVol n 0 s.voices (zeroAccumulators s.nvoices n)
    .next { s with
      voices := r.1
      response := 0
      out := r.2.map (fun row => row.map (narrow s.params.pcmBits)) }

end Sys2Proof.Machine
end

