-- ==== Sys2Proof/Machine/Status.lean ====
section
/-! DEFINITION. Status, read-back, configuration and reset commands (45_status_misc.md). -/

namespace Sys2Proof.Machine

/-- NOP (R170). -/
def execNop (s : State) : Result := doNothing s

/-- RDSTAT v (R171). -/
def execRdstat (v : VoiceSel) (s : State) : Result := readVoice v (fun x => x.status) s

/-- CLREVT v, mask (R172). -/
def execClrevt (v : VoiceSel) (loopDone stopped : Bool) (s : State) : Result :=
  onVoice v (fun x =>
    { x with
      evLoopDone := x.evLoopDone && !loopDone
      evStopped := x.evStopped && !stopped }) s

/-- RDREG v, idx (R173). -/
def execRdreg (v : VoiceSel) (idx : Byte) (s : State) : Result := readVoice v (fun x => x.readReg idx) s

/-- RDGLOB idx (R174). -/
def execRdglob (idx : Byte) (s : State) : Result := .next (s.respond (s.readGlob idx))

/-- RESET: the power-on state of the same instance (R175, R200, R201); the words the host has yet to
issue stay on its side of the port (log 4). -/
def execReset (s : State) : Result :=
  .next { State.powerOn s.params s.nvoices s.smpl with port := s.port }

/-- SETCFG bits (R176). -/
def execSetcfg (noAddBeg : Bool) (s : State) : Result :=
  onGlobals (fun g => { g with noAddBeg := noAddBeg }) s

end Sys2Proof.Machine
end

