-- ==== Sys2Proof/Machine/Tick.lean ====
section
/-! DEFINITION. TICK, the per-tick effects pipeline (43_tick.md). Stages 1 to 4 read and write one voice
(stage 4 also reads CFG), so running them for each voice in turn is a map over the voices (R131). -/

namespace Sys2Proof.Machine

/-- Vibrato's period: the nominal period scaled by `2048 + offset` in units of 1/2048, floored and
saturated (R132). -/
def vibratoPeriod (dest : Half) (offset : Half) : Half :=
  trunc 16 (sat (shiftRight ((dest.toNat : Int) * (2048 + offset.toInt)) 11) 0 65535)

/-- Stage 1, vibrato (R132). -/
def Voice.vibratoStage (x : Voice) : Voice :=
  if x.vibPeriod = 0 then x
  else
    let offset := trunc 16 (x.vibOffset.toInt + x.vibWidth.toInt)
    let cd := countdown x.vibPhase x.vibPeriod
    { x with
      vibOffset := offset
      curPeriod := if x.portaRate = 0 then vibratoPeriod x.destPeriod offset else x.curPeriod
      vibPhase := cd.2
      vibWidth := if cd.1 then negate x.vibWidth else x.vibWidth }

/-- One portamento step from period `c` toward `d` at rate `r`: the period reached, and whether it is an
arrival (R134). -/
def portaStep (c d r : Nat) : Nat × Bool :=
  if d < c then
    let a := (c * (256 - r)) >>> 8
    if a ≤ d then (d, true) else (a, false)
  else if c < d then
    let b := (c * (256 + r)) >>> 8
    let a := if b = c then c + 1 else b
    if d ≤ a then (d, true) else (a, false)
  else (d, true)

/-- Stage 2, portamento (R134). -/
def Voice.portaStage (x : Voice) : Voice :=
  if x.portaRate = 0 then x
  else
    let r := portaStep x.curPeriod.toNat x.destPeriod.toNat x.portaRate.toNat
    { x with
      curPeriod := BitVec.ofNat 16 r.1
      portaRate := if r.2 then 0 else x.portaRate }

/-- One envelope step from volume `cv` toward `t` at rate `r`: the volume reached, and whether it is an
arrival (R136). -/
def envStep (cv t r : Nat) : Int × Bool :=
  if t < cv then
    let nv : Int := (cv : Int) - r
    if nv ≤ t then (t, true) else (nv, false)
  else if cv < t then
    let nv : Int := (cv : Int) + r
    if t ≤ nv then (t, true) else (nv, false)
  else (t, true)

/-- Stage 3, envelope (R136). -/
def Voice.envStage (x : Voice) : Voice :=
  if x.envRate = 0 then x
  else
    let cd := countdown x.envCount x.envReset
    if cd.1 then
      let r := envStep x.curVol.toNat x.envTarget.toNat x.envRate.toNat
      { x with
        curVol := trunc 8 r.1
        envRate := if r.2 then 0 else x.envRate
        envCount := if r.2 then 0 else cd.2 }
    else { x with envCount := cd.2 }

/-- Stage 4, the add-begin oscillator (R137); skipped with NOADDBEG = 1 (R29). -/
def Voice.aboStage (noAddBeg : Bool) (x : Voice) : Voice :=
  if x.aboReset = 0 ∨ noAddBeg = true then x
  else
    let cd := countdown x.aboCount x.aboReset
    if cd.1 then
      { x.setStart (addSigned x.curAddr x.aboDelta) with
        aboCount := cd.2, aboDelta := negate x.aboDelta }
    else { x with aboCount := cd.2 }

/-- Stages 1 to 4 of one voice, in order (R130, R131). -/
def Voice.effects (noAddBeg : Bool) (x : Voice) : Voice :=
  x.vibratoStage.portaStage.envStage.aboStage noAddBeg

/-- Stage 5, the master fade, once per TICK (R139). -/
def Globals.fadeStage (g : Globals) : Globals :=
  if g.fadeSlope = 0 then g
  else
    let cd := countdown g.fadeCount g.fadeReset
    if cd.1 then
      let mv := addSigned g.masterVol g.fadeSlope
      if mv = g.fadeTarget then { g with masterVol := mv, fadeSlope := 0, fadeCount := 0 }
      else { g with masterVol := mv, fadeCount := cd.2 }
    else { g with fadeCount := cd.2 }

/-- `p2d(p)`, period to delta (R141). -/
def periodToDelta (p : Params) (period : Nat) : Nat :=
  if period = 0 then 0 else (p.clockHz * 16384) / (period * p.outRate)

/-- Stage 6, the latch to the hardware side (R140). -/
def Voice.latch (p : Params) (x : Voice) : Voice :=
  { x with delta := BitVec.ofNat 32 (periodToDelta p x.curPeriod.toNat), hwVol := x.curVol }

/-- TICK (R130). -/
def execTick (s : State) : Result :=
  .next ({ s with
    voices := (s.voices.map (Voice.effects s.glob.noAddBeg)).map (Voice.latch s.params)
    glob := s.glob.fadeStage }.respond 0)

end Sys2Proof.Machine
end

