-- ==== Sys2Proof/Machine/Dispatch.lean ====
section
/-! DEFINITION. One arm per command: the meaning of each in one direct call. -/

namespace Sys2Proof.Machine

def exec (i : Instr) (s : State) : Host.Outcome State Fault Refusal :=
  match i with
  -- Global class (R64)
  | .nop => Sys2Proof.Machine.execNop s
  | .setmvol vol => Sys2Proof.Machine.execSetmvol vol s
  | .fade speed target => Sys2Proof.Machine.execFade speed target s
  | .tick => Sys2Proof.Machine.execTick s
  | .render frames => Sys2Proof.Machine.execRender frames s
  | .rdglob idx => Sys2Proof.Machine.execRdglob idx s
  | .reset => Sys2Proof.Machine.execReset s
  | .setcfg noAddBeg => Sys2Proof.Machine.execSetcfg noAddBeg s
  -- Voice class (R63)
  | .dmaoffr v => Sys2Proof.Machine.execDmaoffr v s
  | .dmaon v => Sys2Proof.Machine.execDmaon v s
  | .setbeg v addr => Sys2Proof.Machine.execSetbeg v addr s
  | .addbeg v step => Sys2Proof.Machine.execAddbeg v step s
  | .setlen v len => Sys2Proof.Machine.execSetlen v len s
  | .addlen v step => Sys2Proof.Machine.execAddlen v step s
  | .loopwait v count => Sys2Proof.Machine.execLoopwait v count s
  | .addvol v step => Sys2Proof.Machine.execAddvol v step s
  | .setvol v vol => Sys2Proof.Machine.execSetvol v vol s
  | .setper v period => Sys2Proof.Machine.execSetper v period s
  | .addper v step => Sys2Proof.Machine.execAddper v step s
  | .porta v rate dest => Sys2Proof.Machine.execPorta v rate dest s
  | .vibrato v period width => Sys2Proof.Machine.execVibrato v period width s
  | .envelope v rate reset target => Sys2Proof.Machine.execEnvelope v rate reset target s
  | .resetfx v => Sys2Proof.Machine.execResetfx v s
  | .smploop v k => Sys2Proof.Machine.execSmploop v k s
  | .oneshot v => Sys2Proof.Machine.execOneshot v s
  | .dmaoff v => Sys2Proof.Machine.execDmaoff v s
  | .oscbeg v n step => Sys2Proof.Machine.execOscbeg v n step s
  | .rdstat v => Sys2Proof.Machine.execRdstat v s
  | .clrevt v loopDone stopped => Sys2Proof.Machine.execClrevt v loopDone stopped s
  | .rdreg v idx => Sys2Proof.Machine.execRdreg v idx s

end Sys2Proof.Machine
end

