-- ==== Sys2Proof/Machine/Step.lean ====
section
/-! DEFINITION. One step: the block takes the word on its command port and executes it (R10). -/

namespace Sys2Proof.Machine

/-- One step. With no command on the port the block is idle and its state does not change (R197). -/
def step (s : State) : Host.Outcome State Fault Refusal :=
  match s.takeWord with
  | some (w, s') => exec (decode w) s'
  | none => .next s

/-- `s` with the word of a table row as the next command on the port, before those the host already has
to issue (log 4). -/
def State.withFetchWord (s : State) (nbits w : Nat) : State :=
  { s with port := tableWord nbits w :: s.port }

end Sys2Proof.Machine
end

