-- ==== Sys2Proof/Safety.lean ====
section
/-! DEFINITION. What a good state and a run are, in the terms the claims use. VRB has no fault, so every
run is safe in that sense (R180); what can go wrong is a state the rules do not mean, and `State.Inv`
says which states are meant. -/

namespace Sys2Proof.Machine

/-- The facts of a voice that every command keeps. -/
structure Voice.Inv (x : Voice) : Prop where
  /-- COMMITTED = 1 with ON = 0 is never reached (R15). -/
  committed_on : x.committed = true → x.on = true
  /-- A running voice has a window and its position lies inside it (R20). -/
  inside : x.on = true → x.committed = true →
    0 < x.actLen.toNat ∧ x.pos.toNat < 2 ^ fracBits * x.actLen.toNat
  /-- LOOP_CNT is at least 1 exactly while LOOPPEND = 1 (R158). -/
  awaited : x.loopPend = true ↔ x.loopCnt ≠ 0
  /-- Every command that writes the committed start also writes the save start (90_conflicts.md C6). -/
  start : x.curAddr = x.saveAddr
  /-- Every command that writes the committed length also writes the save length (90_conflicts.md C6). -/
  length : x.curLen = x.saveLen

/-- FADE_SLOPE is -1, 0 or +1 (R27), and a running fade points toward its target (R139). -/
structure Globals.Inv (g : Globals) : Prop where
  slope : g.fadeSlope = 0 ∨ (g.fadeSlope = -1 ∧ g.fadeTarget.toNat < g.masterVol.toNat)
    ∨ (g.fadeSlope = 1 ∧ g.masterVol.toNat < g.fadeTarget.toNat)

/-- The facts of the machine that every command keeps. -/
structure State.Inv (s : State) : Prop where
  /-- The parameters are in their ranges (R4, R5). -/
  legal : s.params.Legal s.nvoices
  /-- The sample image is in its canonical form. -/
  canonical : s.smpl.wf = true
  /-- The image has no byte outside the sample memory (R40). -/
  backed : ∀ c ∈ s.smpl, c.1 < s.params.smplSize
  /-- Every voice is as its rules leave it. -/
  voices : ∀ x ∈ s.voices, x.Inv
  /-- The fade is as its rules leave it. -/
  glob : s.glob.Inv

/-- The commands `is` executed one after the other (R50). -/
def runCommands : List Instr → State → Result
  | [], s => .next s
  | i :: is, s =>
    match exec i s with
    | .next t => runCommands is t
    | .fault r => .fault r
    | .refused r => .refused r

/-- The triangle table `T(k)` of R133 for a VIBRATO of period `p`. -/
def triangle (p k : Nat) : Int :=
  let h := max 1 (p / 2)
  let q := max 1 p
  if k ≤ h then k
  else
    let m := (k - h) % (2 * q)
    if m ≤ q then (h : Int) - m else (h : Int) - 2 * q + m

/-- The portamento's descending step `f(c) = (c * (256 - r)) >> 8`, `k` times (R135). -/
def descend (r : Nat) : Nat → Nat → Nat
  | 0, c => c
  | k + 1, c => descend r k (c * (256 - r) / 256)

end Sys2Proof.Machine
end

