-- ==== Sys2Proof/Certificates/Slice0/Obligations.lean ====
section
/-! DEFINITION. The statements for the provers, each from the numbered rules its docstring names. A
voice-class command's statement is about a voice the instance has; what it does on a voice the instance
has not is `AbsentVoiceMakesCommandNop`. `ign` stands for the operand bits a format ignores (R69).
`response := 0` is R67's response, and `out := []` is the model's way to say that the command writes
nothing to OUT (R46, log 5). The conclusions name the whole next state, so each is also the command's
frame. -/

open Sys2Proof Sys2Proof.Machine

/-! ## Encoding, decoding, and the step -/

/-- Every operand of every command survives encoding and decoding (R60 to R66). -/
def Obligations.DecodeOfEncodeIsIdentity : Prop :=
  ∀ i : Instr, i.WellFormed → decode (encode i) = i

/-- No word decodes to a voice-class command on voice 7, which is the global class (R61, R66). -/
def Obligations.DecodedCommandsAreWellFormed : Prop :=
  ∀ w : Word, (decode w).WellFormed

/-- Two words that differ only in ignored bits are the same command (R69). -/
def Obligations.IgnoredBitsDoNotMatter : Prop :=
  ∀ w w' : Word, w &&& usedBits w = w' &&& usedBits w → decode w' = decode w

/-- A reserved word, or a voice-class word for a voice the instance has not, executes as NOP: no state
change, response 0, whatever its operand bits (R177, R68). The fields are read arithmetically here:
`vs` is `w / 2^29` and `op` is `w / 2^24 % 32`. -/
def Obligations.ReservedWordsExecuteAsNop : Prop :=
  ∀ (s : State) (w : Word) (rest : List Word), s.port = w :: rest →
    (w.toNat / 2 ^ 29 ≠ 7 ∧ 22 ≤ w.toNat / 2 ^ 24 % 32)
      ∨ (w.toNat / 2 ^ 29 = 7 ∧ 8 ≤ w.toNat / 2 ^ 24 % 32)
      ∨ (w.toNat / 2 ^ 29 ≠ 7 ∧ s.nvoices ≤ w.toNat / 2 ^ 29) →
    step s = .next { s with port := rest, response := 0, out := [] }

/-- Words written out from the encoding tables (30_encoding.md section 6 and R68). -/
def Obligations.ExampleWordsDecode : Prop :=
  decode 0x02000100#32 = .setbeg 0 0x000100#24 ∧ decode 0x490001AC#32 = .setper 2 428#16 ∧
  decode 0x270000FD#32 = .addvol 1 0xFD#8 ∧ decode 0x0B1001AC#32 = .porta 0 16#8 428#16 ∧
  decode 0x6D0A0214#32 = .envelope 3 10#8 2#8 20#8 ∧ decode 0xE3000000#32 = .tick ∧
  decode 0xE4000006#32 = .render 6#24 ∧ decode 0x04040004#32 = .setlen 0 4#18 ∧
  decode 0xFF123456#32 = .nop

/-- Four bytes are one command word, the opcode byte first (R44, R60). That fewer than four bytes are the
decode error `truncated` is the model's deduction (log 16), not a rule of the spec. -/
def Obligations.CommandBytesAreBigEndian : Prop :=
  (∀ (b0 b1 b2 b3 : Byte) (rest : List Byte), decodeBytes (b0 :: b1 :: b2 :: b3 :: rest) =
    .ok (decode (BitVec.ofNat 32
      (b0.toNat * 2 ^ 24 + b1.toNat * 2 ^ 16 + b2.toNat * 2 ^ 8 + b3.toNat)), rest)) ∧
  ∀ bs : List Byte, bs.length < 4 → decodeBytes bs = .error .truncated

/-- A step takes the next word off the port and executes the command it decodes to; with no word on the
port nothing changes (R10, R66, R197; the port as a list is the model's choice, log 4). -/
def Obligations.StepExecutesTheWordOnThePort : Prop :=
  (∀ (s : State) (w : Word) (rest : List Word), s.port = w :: rest →
    step s = exec (decode w) { s with port := rest }) ∧
  (∀ (s : State) (i : Instr) (rest : List Word), i.WellFormed → s.port = encode i :: rest →
    step s = exec i { s with port := rest }) ∧
  ∀ s : State, s.port = [] → step s = .next s

/-- Every command, and every step, in every state completes with a next state (R180). That a command
leaves `port` alone and a step takes one word off it is the model's choice: the port is a list in the
state (log 4). -/
def Obligations.EveryCommandCompletes : Prop :=
  (∀ (i : Instr) (s : State), ∃ t, exec i s = .next t ∧ t.port = s.port) ∧
  ∀ s : State, ∃ t, step s = .next t ∧ t.port = s.port.tail

/-- A voice-class command whose voice number is not implemented executes as NOP with response 0 (R61,
R80). -/
def Obligations.AbsentVoiceMakesCommandNop : Prop :=
  ∀ (i : Instr) (v : VoiceSel) (s : State), i.voice? = some v → s.nvoices ≤ v.toNat →
    exec i s = .next { s with response := 0, out := [] }

/-! ## Voice enable and sample-window commands (40_voice_dma_sample.md) -/

/-- DMAOFF clears MODE and LOOP_CNT; DMAOFFR does that and `reset_fx` (R81, R90, R92). -/
def Obligations.DmaOffClearsModeAndLoopCount : Prop :=
  ∀ (s : State) (v : VoiceSel) (x : Voice) (ign : BitVec 24), s.voices[v.toNat]? = some x →
    (v ≠ 7 → decode (packWord v 0x11 ign) = .dmaoff v ∧ decode (packWord v 0x00 ign) = .dmaoffr v) ∧
    exec (.dmaoff v) s = .next { s with
      voices := s.voices.set v.toNat
        { x with on := false, committed := false, loopPend := false, loopCnt := 0 }
      response := 0, out := [] } ∧
    exec (.dmaoffr v) s = .next { s with
      voices := s.voices.set v.toNat
        { x with
          on := false, committed := false, loopPend := false, loopCnt := 0
          vibPeriod := 0, vibPhase := 0, vibWidth := 0, vibOffset := 0
          portaRate := 0
          envRate := 0, envReset := 0, envCount := 0, envTarget := 0
          aboDelta := 0, aboReset := 0, aboCount := 0
          curPeriod := x.destPeriod }
      response := 0, out := [] }

/-- RESETFX clears every drive value and puts the period back to its nominal value (R115). -/
def Obligations.ResetFxClearsEveryDriveValue : Prop :=
  ∀ (s : State) (v : VoiceSel) (x : Voice) (ign : BitVec 24), s.voices[v.toNat]? = some x →
    (v ≠ 7 → decode (packWord v 0x0E ign) = .resetfx v) ∧
    exec (.resetfx v) s = .next { s with
      voices := s.voices.set v.toNat
        { x with
          vibPeriod := 0, vibPhase := 0, vibWidth := 0, vibOffset := 0
          portaRate := 0
          envRate := 0, envReset := 0, envCount := 0, envTarget := 0
          aboDelta := 0, aboReset := 0, aboCount := 0
          curPeriod := x.destPeriod }
      response := 0, out := [] }

/-- DMAON makes the voice pending with policy CONTINUE; ONESHOT sets the policy STOP (R82, R88). -/
def Obligations.DmaOnArmsAndOneShotSetsPolicy : Prop :=
  ∀ (s : State) (v : VoiceSel) (x : Voice) (ign : BitVec 24), s.voices[v.toNat]? = some x →
    (v ≠ 7 → decode (packWord v 0x01 ign) = .dmaon v ∧ decode (packWord v 0x10 ign) = .oneshot v) ∧
    exec (.dmaon v) s = .next { s with
      voices := s.voices.set v.toNat { x with on := true, committed := false, loopPolicy := .cont }
      response := 0, out := [] } ∧
    exec (.oneshot v) s = .next { s with
      voices := s.voices.set v.toNat { x with loopPolicy := .stop }
      response := 0, out := [] }

/-- SETBEG writes the committed and the save start and cancels the add-begin oscillator (R83). -/
def Obligations.SetBegWritesBothStarts : Prop :=
  ∀ (s : State) (v : VoiceSel) (x : Voice) (a : Addr), s.voices[v.toNat]? = some x →
    (v ≠ 7 → decode (packWord v 0x02 a) = .setbeg v a) ∧
    exec (.setbeg v a) s = .next { s with
      voices := s.voices.set v.toNat
        { x with curAddr := a, saveAddr := a, aboDelta := 0, aboReset := 0, aboCount := 0 }
      response := 0, out := [] }

/-- ADDBEG adds the signed step to the committed start modulo `2^24` and copies it to the save start;
with NOADDBEG = 1 it is NOP (R84). -/
def Obligations.AddBegWrapsAndObeysNoAddBeg : Prop :=
  ∀ (s : State) (v : VoiceSel) (x : Voice) (d : BitVec 24), s.voices[v.toNat]? = some x →
    (v ≠ 7 → decode (packWord v 0x03 d) = .addbeg v d) ∧
    (s.glob.noAddBeg = false → exec (.addbeg v d) s = .next { s with
      voices := s.voices.set v.toNat
        { x with curAddr := x.curAddr + d, saveAddr := x.curAddr + d }
      response := 0, out := [] }) ∧
    (s.glob.noAddBeg = true → exec (.addbeg v d) s = .next { s with response := 0, out := [] })

/-- SETLEN writes both lengths with the low 18 operand bits; ADDLEN adds the signed step modulo `2^18`
(R85, R86). -/
def Obligations.SetLenAndAddLenWriteBothLengths : Prop :=
  ∀ (s : State) (v : VoiceSel) (x : Voice) (ign : BitVec 6) (n : Len) (d : BitVec 24),
    s.voices[v.toNat]? = some x →
    (v ≠ 7 → decode (packWord v 0x04 (ign ++ n)) = .setlen v n
      ∧ decode (packWord v 0x05 d) = .addlen v d) ∧
    exec (.setlen v n) s = .next { s with
      voices := s.voices.set v.toNat { x with curLen := n, saveLen := n }
      response := 0, out := [] } ∧
    ∃ m : Len, (m.toNat : Int) = ((x.curLen.toNat : Int) + d.toInt) % 2 ^ 18 ∧
      exec (.addlen v d) s = .next { s with
        voices := s.voices.set v.toNat { x with curLen := m, saveLen := m }
        response := 0, out := [] }

/-- SMPLOOP moves the save start by `min(k, SAVE_LEN)` modulo `2^24`, takes as much off the save length,
and makes the committed pair equal to the save pair (R87). -/
def Obligations.SmpLoopShrinksInPlace : Prop :=
  ∀ (s : State) (v : VoiceSel) (x : Voice) (k : BitVec 24), s.voices[v.toNat]? = some x →
    (v ≠ 7 → decode (packWord v 0x0F k) = .smploop v k) ∧
    ∃ (a : Addr) (n : Len),
      a.toNat = (x.saveAddr.toNat + min k.toNat x.saveLen.toNat) % 2 ^ 24 ∧
      n.toNat = x.saveLen.toNat - min k.toNat x.saveLen.toNat ∧
      exec (.smploop v k) s = .next { s with
        voices := s.voices.set v.toNat
          { x with saveAddr := a, saveLen := n, curAddr := a, curLen := n }
        response := 0, out := [] }

/-- LOOPWAIT 0 completes at once; any other count arms the wait (R89). -/
def Obligations.LoopWaitArmsOrCompletes : Prop :=
  ∀ (s : State) (v : VoiceSel) (x : Voice) (ign : BitVec 16) (c : Byte),
    s.voices[v.toNat]? = some x →
    (v ≠ 7 → decode (packWord v 0x06 (ign ++ c)) = .loopwait v c) ∧
    (c = 0 → exec (.loopwait v c) s = .next { s with
      voices := s.voices.set v.toNat { x with loopPend := false, loopCnt := 0, evLoopDone := true }
      response := 0, out := [] }) ∧
    (c ≠ 0 → exec (.loopwait v c) s = .next { s with
      voices := s.voices.set v.toNat { x with loopPend := true, loopCnt := c }
      response := 0, out := [] })

/-! ## Pitch and volume commands (41_pitch_volume.md) -/

/-- SETVOL stores the volume; ADDVOL adds the signed step modulo 256 (R100, R101). -/
def Obligations.SetVolAndAddVolWriteVolume : Prop :=
  ∀ (s : State) (v : VoiceSel) (x : Voice) (ign : BitVec 16) (b : Byte),
    s.voices[v.toNat]? = some x →
    (v ≠ 7 → decode (packWord v 0x07 (ign ++ b)) = .addvol v b
      ∧ decode (packWord v 0x08 (ign ++ b)) = .setvol v b) ∧
    exec (.setvol v b) s = .next { s with
      voices := s.voices.set v.toNat { x with curVol := b }
      response := 0, out := [] } ∧
    exec (.addvol v b) s = .next { s with
      voices := s.voices.set v.toNat { x with curVol := x.curVol + b }
      response := 0, out := [] }

/-- SETPER writes both periods; ADDPER adds the signed step to DEST_PERIOD modulo 65536 and copies it to
CUR_PERIOD (R102, R103). -/
def Obligations.SetPerAndAddPerWriteBothPeriods : Prop :=
  ∀ (s : State) (v : VoiceSel) (x : Voice) (ign : Byte) (p : Half),
    s.voices[v.toNat]? = some x →
    (v ≠ 7 → decode (packWord v 0x09 (ign ++ p)) = .setper v p
      ∧ decode (packWord v 0x0A (ign ++ p)) = .addper v p) ∧
    exec (.setper v p) s = .next { s with
      voices := s.voices.set v.toNat { x with destPeriod := p, curPeriod := p }
      response := 0, out := [] } ∧
    exec (.addper v p) s = .next { s with
      voices := s.voices.set v.toNat
        { x with destPeriod := x.destPeriod + p, curPeriod := x.destPeriod + p }
      response := 0, out := [] }

/-! ## Commands that start effects, and the master volume (42_effect_start.md) -/

/-- PORTA, VIBRATO and ENVELOPE load their drive values and nothing else; the vibrato countdown starts
at half the period (R110, R111, R112). -/
def Obligations.EffectStartsLoadDriveValues : Prop :=
  ∀ (s : State) (v : VoiceSel) (x : Voice) (a b c : Byte) (h : Half),
    s.voices[v.toNat]? = some x →
    (v ≠ 7 → decode (packWord v 0x0B (a ++ h)) = .porta v a h
      ∧ decode (packWord v 0x0C (a ++ b ++ c)) = .vibrato v a c
      ∧ decode (packWord v 0x0D (a ++ b ++ c)) = .envelope v a b c) ∧
    exec (.porta v a h) s = .next { s with
      voices := s.voices.set v.toNat { x with portaRate := a, destPeriod := h }
      response := 0, out := [] } ∧
    (∃ half : Byte, half.toNat = a.toNat / 2 ∧ exec (.vibrato v a c) s = .next { s with
      voices := s.voices.set v.toNat
        { x with vibPeriod := a, vibPhase := half, vibWidth := c, vibOffset := 0 }
      response := 0, out := [] }) ∧
    exec (.envelope v a b c) s = .next { s with
      voices := s.voices.set v.toNat
        { x with envRate := a, envReset := b, envCount := b, envTarget := c }
      response := 0, out := [] }

/-- OSCBEG loads the add-begin oscillator; with NOADDBEG = 1 it is NOP (R116). -/
def Obligations.OscBegLoadsOscillatorOrObeysNoAddBeg : Prop :=
  ∀ (s : State) (v : VoiceSel) (x : Voice) (n : Byte) (d : Half), s.voices[v.toNat]? = some x →
    (v ≠ 7 → decode (packWord v 0x12 (n ++ d)) = .oscbeg v n d) ∧
    (s.glob.noAddBeg = false → exec (.oscbeg v n d) s = .next { s with
      voices := s.voices.set v.toNat { x with aboDelta := d, aboReset := n, aboCount := n }
      response := 0, out := [] }) ∧
    (s.glob.noAddBeg = true → exec (.oscbeg v n d) s = .next { s with response := 0, out := [] })

/-- SETMVOL writes MASTER_VOL and cancels the fade (R120). -/
def Obligations.SetMVolCancelsFade : Prop :=
  ∀ (s : State) (ign : BitVec 16) (b : Byte),
    decode (packWord 7 0x01 (ign ++ b)) = .setmvol b ∧
    exec (.setmvol b) s = .next { s with
      glob := { s.glob with masterVol := b, fadeSlope := 0, fadeCount := 0 }
      response := 0, out := [] }

/-- FADE jumps to its target at once, or loads the ramp with slope -1 or +1 toward it (R121). -/
def Obligations.FadeJumpsOrLoadsRamp : Prop :=
  ∀ (s : State) (ign speed target : Byte),
    decode (packWord 7 0x02 (speed ++ ign ++ target)) = .fade speed target ∧
    (speed = 0 ∨ s.glob.masterVol = target → exec (.fade speed target) s = .next { s with
      glob := { s.glob with
        masterVol := target, fadeSlope := 0, fadeTarget := target, fadeReset := 0, fadeCount := 0 }
      response := 0, out := [] }) ∧
    (speed ≠ 0 → target.toNat < s.glob.masterVol.toNat →
      exec (.fade speed target) s = .next { s with
        glob := { s.glob with
          fadeSlope := -1, fadeTarget := target, fadeReset := speed, fadeCount := speed }
        response := 0, out := [] }) ∧
    (speed ≠ 0 → s.glob.masterVol.toNat < target.toNat →
      exec (.fade speed target) s = .next { s with
        glob := { s.glob with
          fadeSlope := 1, fadeTarget := target, fadeReset := speed, fadeCount := speed }
        response := 0, out := [] })

/-! ## TICK (43_tick.md) -/

/-- TICK runs stages 1 to 4 on every voice, the fade once, then the latch on every voice; nothing else
changes, and the response is 0 (R130). -/
def Obligations.TickRunsThePipeline : Prop :=
  ∀ (s : State) (ign : BitVec 24),
    decode (packWord 7 0x03 ign) = .tick ∧
    exec .tick s = .next { s with
      voices := s.voices.map fun x =>
        (x.vibratoStage.portaStage.envStage.aboStage s.glob.noAddBeg).latch s.params
      glob := s.glob.fadeStage
      response := 0, out := [] }

/-- The vibrato stage (R132): the offset steps by the width, the period follows unless portamento is
armed, and the width changes sign when the countdown fires. -/
def Obligations.VibratoStageStepsTheTriangle : Prop :=
  ∀ x : Voice, (x.vibPeriod = 0 → x.vibratoStage = x) ∧
    (x.vibPeriod ≠ 0 → ∃ (p : Half),
      (x.portaRate ≠ 0 → p = x.curPeriod) ∧
      (x.portaRate = 0 → (p.toNat : Int) = max 0 (min 65535
        ((x.destPeriod.toNat : Int) * (2048 + (x.vibOffset + x.vibWidth.signExtend 16).toInt)
          / 2048))) ∧
      (x.vibPhase.toNat ≤ 1 → x.vibratoStage = { x with
        vibOffset := x.vibOffset + x.vibWidth.signExtend 16, curPeriod := p
        vibPhase := x.vibPeriod, vibWidth := -x.vibWidth }) ∧
      (1 < x.vibPhase.toNat → x.vibratoStage = { x with
        vibOffset := x.vibOffset + x.vibWidth.signExtend 16, curPeriod := p
        vibPhase := x.vibPhase - 1 }))

/-- The portamento stage (R134): one multiplicative step, floored, at least 1 upward, which arrives at
the destination when it reaches or passes it. -/
def Obligations.PortamentoStageMultipliesTowardDestination : Prop :=
  ∀ x : Voice,
    let c := x.curPeriod.toNat
    let d := x.destPeriod.toNat
    let r := x.portaRate.toNat
    let down := c * (256 - r) / 256
    let up := max (c * (256 + r) / 256) (c + 1)
    (r = 0 → x.portaStage = x) ∧
    (r ≠ 0 → c = d ∨ (d < c ∧ down ≤ d) ∨ (c < d ∧ d ≤ up) →
      x.portaStage = { x with curPeriod := x.destPeriod, portaRate := 0 }) ∧
    (r ≠ 0 → d < c → d < down → x.portaStage = { x with curPeriod := BitVec.ofNat 16 down } ∧
      down < c) ∧
    (r ≠ 0 → c < d → up < d → x.portaStage = { x with curPeriod := BitVec.ofNat 16 up })

/-- The envelope stage (R136): nothing but the countdown until it fires, then one step of ENV_RATE
toward the target, which arrives when the target is within one step. -/
def Obligations.EnvelopeStageRampsLinearly : Prop :=
  ∀ x : Voice,
    let cv := x.curVol.toNat
    let t := x.envTarget.toNat
    let r := x.envRate.toNat
    (r = 0 → x.envStage = x) ∧
    (r ≠ 0 → 1 < x.envCount.toNat → x.envStage = { x with envCount := x.envCount - 1 }) ∧
    (r ≠ 0 → x.envCount.toNat ≤ 1 → cv ≤ t + r → t ≤ cv + r →
      x.envStage = { x with curVol := x.envTarget, envRate := 0, envCount := 0 }) ∧
    (r ≠ 0 → x.envCount.toNat ≤ 1 → t + r < cv →
      x.envStage = { x with curVol := BitVec.ofNat 8 (cv - r), envCount := x.envReset }) ∧
    (r ≠ 0 → x.envCount.toNat ≤ 1 → cv + r < t →
      x.envStage = { x with curVol := BitVec.ofNat 8 (cv + r), envCount := x.envReset })

/-- The add-begin stage (R137): on the tick the countdown fires the delta is added to the committed
start modulo `2^24`, copied to the save start, and negated; with NOADDBEG = 1 nothing happens. -/
def Obligations.AddBeginStageAddsAndNegatesWhenFired : Prop :=
  ∀ (x : Voice) (noAddBeg : Bool),
    (x.aboReset = 0 ∨ noAddBeg = true → x.aboStage noAddBeg = x) ∧
    (x.aboReset ≠ 0 → noAddBeg = false → 1 < x.aboCount.toNat →
      x.aboStage noAddBeg = { x with aboCount := x.aboCount - 1 }) ∧
    (x.aboReset ≠ 0 → noAddBeg = false → x.aboCount.toNat ≤ 1 →
      x.aboStage noAddBeg = { x with
        curAddr := x.curAddr + x.aboDelta.signExtend 24
        saveAddr := x.curAddr + x.aboDelta.signExtend 24
        aboDelta := -x.aboDelta, aboCount := x.aboReset })

/-- The fade stage (R139): on the tick the countdown fires MASTER_VOL moves by the slope, and meeting
the target disarms the fade. -/
def Obligations.FadeStageStepsMasterVolume : Prop :=
  ∀ g : Globals,
    (g.fadeSlope = 0 → g.fadeStage = g) ∧
    (g.fadeSlope ≠ 0 → 1 < g.fadeCount.toNat →
      g.fadeStage = { g with fadeCount := g.fadeCount - 1 }) ∧
    (g.fadeSlope ≠ 0 → g.fadeCount.toNat ≤ 1 → g.masterVol + g.fadeSlope = g.fadeTarget →
      g.fadeStage = { g with masterVol := g.fadeTarget, fadeSlope := 0, fadeCount := 0 }) ∧
    (g.fadeSlope ≠ 0 → g.fadeCount.toNat ≤ 1 → g.masterVol + g.fadeSlope ≠ g.fadeTarget →
      g.fadeStage = { g with masterVol := g.masterVol + g.fadeSlope, fadeCount := g.fadeReset })

/-- The latch (R140, R141): DELTA is the period's delta, which fits its register for legal parameters,
HW_VOL is CUR_VOL, and nothing else changes. -/
def Obligations.LatchTransfersPitchAndVolume : Prop :=
  ∀ (p : Params) (nv : Nat) (x : Voice), p.Legal nv →
    ∃ d : Word,
      (x.curPeriod.toNat = 0 → d.toNat = 0) ∧
      (x.curPeriod.toNat ≠ 0 → d.toNat = p.clockHz * 16384 / (x.curPeriod.toNat * p.outRate)) ∧
      x.latch p = { x with delta := d, hwVol := x.curVol }

/-- With nothing armed stages 1 to 5 change nothing, and a TICK with no command since the last latch is
the identity on the registers (R142). -/
def Obligations.TickWithNothingArmedIsIdempotent : Prop :=
  ∀ s : State,
    (∀ x ∈ s.voices, x.vibPeriod = 0 ∧ x.portaRate = 0 ∧ x.envRate = 0 ∧ x.aboReset = 0) →
    s.glob.fadeSlope = 0 →
    exec .tick s = .next { s with
      voices := s.voices.map (Voice.latch s.params), response := 0, out := [] } ∧
    ((∀ x ∈ s.voices, x.hwVol = x.curVol ∧
        x.delta = BitVec.ofNat 32 (periodToDelta s.params x.curPeriod.toNat)) →
      exec .tick s = .next { s with response := 0, out := [] })

/-- From any period, destination and rate the portamento reaches the destination exactly after finitely
many ticks and is then idle; until then it moves strictly toward it and never beyond; descending, the
number of ticks is the least with `f^n(c0) <= d`, and it is at most any `n` with
`c0 * (256 - r)^n <= d * 256^n`, which is the logarithmic bound of R135 without logarithms. -/
def Obligations.PortamentoConvergesWithoutOvershoot : Prop :=
  ∀ (s : State) (v : VoiceSel) (x : Voice), s.voices[v.toNat]? = some x → x.portaRate ≠ 0 →
    let c0 := x.curPeriod.toNat
    let d := x.destPeriod.toNat
    let r := x.portaRate.toNat
    ∃ (n : Nat) (c : Nat → Nat), 1 ≤ n ∧ c 0 = c0 ∧ c n = d ∧
      (∀ k ≤ n, ∃ t y, runCommands (List.replicate k .tick) s = .next t ∧
        t.voices[v.toNat]? = some y ∧ y.curPeriod.toNat = c k ∧ y.destPeriod = x.destPeriod ∧
        y.portaRate = if k < n then x.portaRate else 0) ∧
      (d < c0 → (∀ k < n, d < c k ∧ c (k + 1) < c k) ∧
        (∀ k, descend r k c0 ≤ d ↔ n ≤ k) ∧
        ∀ k, c0 * (256 - r) ^ k ≤ d * 256 ^ k → n ≤ k) ∧
      (c0 < d → ∀ k < n, c k < d ∧ c k < c (k + 1)) ∧
      (c0 = d → n = 1)

/-- After a VIBRATO of period `P >= 1` and width `W` other than -128 the offset is the triangle table:
after `k` ticks it is `W * T(k)`, and it stays within `128 * |W|` (R133). -/
def Obligations.VibratoOffsetIsTheTriangleTable : Prop :=
  ∀ (s : State) (v : VoiceSel) (x : Voice) (p w : Byte) (k : Nat),
    s.voices[v.toNat]? = some x → p ≠ 0 → w.toInt ≠ -128 →
    ∃ t y, runCommands (.vibrato v p w :: List.replicate k .tick) s = .next t ∧
      t.voices[v.toNat]? = some y ∧
      y.vibOffset.toInt = w.toInt * triangle p.toNat k ∧
      |y.vibOffset.toInt| ≤ 128 * |w.toInt|

/-- After an OSCBEG of period `N >= 1` and delta `d` the add-begin oscillator fires once in every `N`
ticks: the delta is negated exactly then, and the sample start alternates between A and A + d, spending
`N` ticks at each, for every `d` but -32768, whose negation is itself (R138, R137). -/
def Obligations.AddBeginOscillatorAlternatesEveryPeriod : Prop :=
  ∀ (s : State) (v : VoiceSel) (x : Voice) (n : Byte) (d : Half) (k : Nat),
    s.voices[v.toNat]? = some x → s.glob.noAddBeg = false → n ≠ 0 →
    ∃ t y, runCommands (.oscbeg v n d :: List.replicate k .tick) s = .next t ∧
      t.voices[v.toNat]? = some y ∧ y.aboReset = n ∧
      y.aboDelta = (if k / n.toNat % 2 = 1 then -d else d) ∧
      y.aboCount.toNat = n.toNat - k % n.toNat ∧
      (n.toNat ≤ k → y.saveAddr = y.curAddr) ∧
      (d.toInt ≠ -32768 → y.curAddr =
        if k / n.toNat % 2 = 1 then x.curAddr + d.signExtend 24 else x.curAddr)

/-- After a FADE of speed `n >= 1` the master volume has moved by one unit per `n` ticks toward the
target, meets it exactly after `n * |start - target|` ticks, and only then is the fade idle (R139,
R121). -/
def Obligations.FadeMeetsItsTargetExactly : Prop :=
  ∀ (s : State) (speed target : Byte) (k : Nat), speed ≠ 0 → s.glob.masterVol ≠ target →
    let mv := s.glob.masterVol.toNat
    let tg := target.toNat
    let n := speed.toNat
    let dist := max mv tg - min mv tg
    ∃ t, runCommands (.fade speed target :: List.replicate k .tick) s = .next t ∧
      (t.glob.fadeSlope = 0 ↔ n * dist ≤ k) ∧
      t.glob.masterVol.toNat =
        if n * dist ≤ k then tg else if tg < mv then mv - k / n else mv + k / n

/-! ## RENDER (44_render.md) -/

/-- NOP does nothing, and RENDER 0 is NOP: no commit, no state change, no output (R170, R163). -/
def Obligations.NopAndRenderZeroDoNothing : Prop :=
  ∀ (s : State) (ign : BitVec 24),
    decode (packWord 7 0x00 ign) = .nop ∧ decode (packWord 7 0x04 0) = .render 0 ∧
    exec .nop s = .next { s with response := 0, out := [] } ∧
    exec (.render 0) s = .next { s with response := 0, out := [] }

/-- RENDER n renders every voice, and writes every frame of every channel once: frame `f` of channel `c`
is the narrowed sum of what frame `f` of each voice routed to `c` adds, 0 where no voice feeds it (R150,
R164). -/
def Obligations.RenderWritesNarrowedSums : Prop :=
  ∀ (s : State) (n : BitVec 24), n ≠ 0 →
    decode (packWord 7 0x04 n) = .render n ∧
    exec (.render n) s = .next { s with
      voices := s.voices.map fun x => (x.render s.params s.smpl s.glob.masterVol n.toNat).1
      response := 0
      out := (List.range s.nvoices).map fun c => (List.range n.toNat).map fun f =>
        narrow s.params.pcmBits (((s.voices.zipIdx.filter fun xv => s.params.routeOf xv.2 = c).map
          fun xv => ((xv.1.render s.params s.smpl s.glob.masterVol n.toNat).2[f]?).getD 0).sum) }

/-- A voice that is off is not touched and adds nothing; a pending voice takes the save pair before its
first sample, and stops there if its length is 0 (R151, R152, R160). -/
def Obligations.OffVoiceIsSilentAndPendingVoiceCommits : Prop :=
  ∀ (p : Params) (m : Memory) (g : Byte) (n : Nat) (x : Voice),
    (x.on = false → x.render p m g n = (x, List.replicate n 0)) ∧
    (x.on = true → x.committed = false → x.saveLen = 0 →
      x.render p m g n = ({ x with
        actAddr := x.saveAddr, actLen := 0, pos := 0
        on := false, committed := false, loopPend := false, loopCnt := 0
        evStopped := true }, List.replicate n 0)) ∧
    (x.on = true → x.committed = false → x.saveLen ≠ 0 →
      x.render p m g n = { x with
        actAddr := x.saveAddr, actLen := x.saveLen, pos := 0, committed := true }.render p m g n)

/-- One frame of a running voice: the sample at the position before the advance, times the capped
volume, times the master volume; then advance, or wrap by the loop policy, reload, snap and loop
completion (R153 to R158, R160, with the fetch of R42 and R43). -/
def Obligations.RunningVoiceRendersOneFrame : Prop :=
  ∀ (p : Params) (m : Memory) (g : Byte) (x : Voice), x.on = true → x.committed = true →
    (x.loopPend = true → x.loopCnt ≠ 0) →
    let ea := x.actAddr.toNat + x.pos.toNat / 2 ^ 14
    let sample : Int := if ea < p.smplSize then (m.read ea).toInt else 0
    let adv := x.pos.toNat + x.delta.toNat
    let len := 2 ^ 14 * x.actLen.toNat
    let len2 := 2 ^ 14 * x.saveLen.toNat
    let r := x.render p m g 1
    let looped := { x with
      actAddr := x.saveAddr, actLen := x.saveLen
      pos := BitVec.ofNat 32 (if len2 ≤ adv - len then 0 else adv - len) }
    r.2 = [sample * (min x.hwVol.toNat 64 : Nat) * g.toNat] ∧
    (adv < len → r.1 = { x with pos := BitVec.ofNat 32 adv }) ∧
    (len ≤ adv → x.loopPolicy = .stop → r.1 = { x with
      on := false, committed := false, loopPend := false, loopCnt := 0
      actLen := 0, pos := 0, evStopped := true }) ∧
    (len ≤ adv → x.loopPolicy = .cont → x.saveLen = 0 → r.1 = { x with
      actAddr := x.saveAddr
      on := false, committed := false, loopPend := false, loopCnt := 0
      actLen := 0, pos := 0, evStopped := true }) ∧
    (len ≤ adv → x.loopPolicy = .cont → x.saveLen ≠ 0 → x.loopPend = false → r.1 = looped) ∧
    (len ≤ adv → x.loopPolicy = .cont → x.saveLen ≠ 0 → x.loopPend = true → x.loopCnt = 1 →
      r.1 = { looped with loopPend := false, loopCnt := 0, evLoopDone := true }) ∧
    (len ≤ adv → x.loopPolicy = .cont → x.saveLen ≠ 0 → x.loopPend = true → x.loopCnt ≠ 1 →
      r.1 = { looped with loopCnt := x.loopCnt - 1 })

/-- RENDER a followed by RENDER b is RENDER a+b: the same registers, and on every channel the a frames
followed by the b frames (R159). -/
def Obligations.RenderSplitsAtAnyFrame : Prop :=
  ∀ (s : State) (a b : BitVec 24), a.toNat + b.toNat < 2 ^ 24 →
    ∃ t1 t2 t, exec (.render a) s = .next t1 ∧ exec (.render b) t1 = .next t2 ∧
      exec (.render (a + b)) s = .next t ∧
      { t with out := [] } = { t2 with out := [] } ∧
      ∀ c < s.nvoices, (t.out[c]?).getD [] = (t1.out[c]?).getD [] ++ (t2.out[c]?).getD []

/-- One contribution is at most 2088960 in magnitude, a legal instance's accumulators at most 14622720,
so 32 bits hold them (R161); narrowing is the floor shift and the clamp to PCM_BITS (R162). -/
def Obligations.AccumulatorsFitAndNarrowToPcm : Prop :=
  (∀ (p : Params) (m : Memory) (g : Byte) (x : Voice), |x.mix p m g| ≤ 2088960) ∧
  (∀ (s : State) (n : Nat), s.params.Legal s.nvoices →
    ∀ row ∈ (renderVoices s.params s.smpl s.glob.masterVol n 0 s.voices
      (zeroAccumulators s.nvoices n)).2, ∀ a ∈ row, |a| ≤ 14622720) ∧
  ∀ (w : Nat) (a : Int), 8 ≤ w → w ≤ 20 →
    narrow w a = max (-(2 ^ (w - 1))) (min (2 ^ (w - 1) - 1) (a / 2 ^ (20 - w)))

/-! ## Status, configuration and reset (45_status_misc.md) -/

/-- RDSTAT answers the status word and changes nothing (R171, R19). -/
def Obligations.RdStatAnswersStatusWord : Prop :=
  ∀ (s : State) (v : VoiceSel) (x : Voice) (ign : BitVec 24), s.voices[v.toNat]? = some x →
    (v ≠ 7 → decode (packWord v 0x13 ign) = .rdstat v) ∧
    ∃ r : Word, exec (.rdstat v) s = .next { s with response := r, out := [] } ∧
      r.toNat = x.on.toNat + x.committed.toNat * 2 + x.loopPend.toNat * 4
        + (if x.loopPolicy = .stop then 8 else 0) + x.evLoopDone.toNat * 16 + x.evStopped.toNat * 32
        + (if x.vibPeriod = 0 then 0 else 256) + (if x.portaRate = 0 then 0 else 512)
        + (if x.envRate = 0 then 0 else 1024) + (if x.aboReset = 0 then 0 else 2048)

/-- CLREVT clears the events its mask bits 4 and 5 name, and nothing else (R172). -/
def Obligations.ClrEvtClearsNamedEvents : Prop :=
  ∀ (s : State) (v : VoiceSel) (x : Voice) (ign : BitVec 16) (mask : Byte),
    s.voices[v.toNat]? = some x →
    (v ≠ 7 → decode (packWord v 0x14 (ign ++ mask)) =
      .clrevt v (mask.getLsbD 4) (mask.getLsbD 5)) ∧
    ∀ loopDone stopped : Bool, exec (.clrevt v loopDone stopped) s = .next { s with
      voices := s.voices.set v.toNat { x with
        evLoopDone := if loopDone then false else x.evLoopDone
        evStopped := if stopped then false else x.evStopped }
      response := 0, out := [] }

/-- RDREG answers the register of its index, signed registers sign-extended, and 0 from index 25 on; it
changes nothing (R173). -/
def Obligations.RdRegAnswersRegisterByIndex : Prop :=
  ∀ (s : State) (v : VoiceSel) (x : Voice) (ign : BitVec 16) (idx : Byte),
    s.voices[v.toNat]? = some x →
    (v ≠ 7 → decode (packWord v 0x15 (ign ++ idx)) = .rdreg v idx) ∧
    exec (.rdreg v idx) s = .next { s with
      response := BitVec.ofInt 32 ((([x.curPeriod.toNat, x.destPeriod.toNat, x.portaRate.toNat,
        x.vibPeriod.toNat, x.vibPhase.toNat, x.vibWidth.toInt, x.vibOffset.toInt, x.envRate.toNat,
        x.envReset.toNat, x.envCount.toNat, x.envTarget.toNat, x.curVol.toNat, x.curAddr.toNat,
        x.curLen.toNat, x.saveAddr.toNat, x.saveLen.toNat, x.aboDelta.toInt, x.aboReset.toNat,
        x.aboCount.toNat, x.actAddr.toNat, x.actLen.toNat, x.pos.toNat, x.delta.toNat,
        x.hwVol.toNat, x.loopCnt.toNat] : List Int)[idx.toNat]?).getD 0)
      out := [] }

/-- RDGLOB answers the global register of its index, NVOICES at index 6, and 0 from index 7 on; it
changes nothing (R174). -/
def Obligations.RdGlobAnswersGlobalByIndex : Prop :=
  ∀ (s : State) (ign : BitVec 16) (idx : Byte),
    decode (packWord 7 0x05 (ign ++ idx)) = .rdglob idx ∧
    exec (.rdglob idx) s = .next { s with
      response := BitVec.ofInt 32 ((([s.glob.masterVol.toNat, s.glob.fadeSlope.toInt,
        s.glob.fadeTarget.toNat, s.glob.fadeReset.toNat, s.glob.fadeCount.toNat,
        s.glob.noAddBeg.toNat, s.nvoices] : List Int)[idx.toNat]?).getD 0)
      out := [] }

/-- RESET puts every register of every voice and of the global file at its reset value, CFG included;
parameters and sample memory stay (R175, R33, R201). That the words on `port` stay, and that `port` is
left out of the comparison with the power-on state, is the model's deduction (log 15) on its own port
(log 4). -/
def Obligations.ResetRestoresPowerOnState : Prop :=
  ∀ (s : State) (ign : BitVec 24),
    decode (packWord 7 0x06 ign) = .reset ∧
    ∃ t, exec .reset s = .next t ∧
      { t with port := [] } = State.powerOn s.params s.nvoices s.smpl ∧ t.port = s.port ∧
      t.params = s.params ∧ t.smpl = s.smpl ∧ t.nvoices = s.nvoices ∧ t.response = 0 ∧
      t.glob.masterVol = 64 ∧ t.glob.fadeSlope = 0 ∧ t.glob.fadeTarget = 0 ∧ t.glob.fadeReset = 0 ∧
      t.glob.fadeCount = 0 ∧ t.glob.noAddBeg = false ∧
      ∀ x ∈ t.voices, (∀ idx, x.readReg idx = 0) ∧ x.on = false ∧ x.committed = false ∧
        x.loopPend = false ∧ x.loopPolicy = .cont ∧ x.evLoopDone = false ∧ x.evStopped = false

/-- SETCFG writes NOADDBEG with bit 0 of its operand, and nothing else (R176). -/
def Obligations.SetCfgWritesNoAddBeg : Prop :=
  ∀ (s : State) (ign : BitVec 16) (b : Byte),
    decode (packWord 7 0x07 (ign ++ b)) = .setcfg (b.getLsbD 0) ∧
    ∀ noAddBeg : Bool, exec (.setcfg noAddBeg) s = .next { s with
      glob := { s.glob with noAddBeg := noAddBeg }
      response := 0, out := [] }

/-! ## Frames: what the commands leave alone -/

/-- A voice-class command touches no other voice, no global register, no memory and no output (R80). -/
def Obligations.VoiceCommandsTouchOnlyTheirVoice : Prop :=
  ∀ (i : Instr) (v : VoiceSel) (s t : State), i.voice? = some v → exec i s = .next t →
    t = { s with voices := t.voices, response := t.response, out := [] } ∧
    t.nvoices = s.nvoices ∧ (∀ a, t.smpl.read a = s.smpl.read a) ∧
    ∀ k, k ≠ v.toNat → t.voices[k]? = s.voices[k]?

/-- No command, and no step, changes a byte of sample memory, a parameter or the number of voices (R11,
R52, R201). -/
def Obligations.MemoryAndParametersNeverChange : Prop :=
  (∀ (i : Instr) (s t : State), exec i s = .next t →
    t.smpl = s.smpl ∧ t.params = s.params ∧ t.nvoices = s.nvoices) ∧
  ∀ (s t : State), step s = .next t →
    (∀ a, t.smpl.read a = s.smpl.read a) ∧ t.smpl = s.smpl ∧ t.params = s.params ∧
    t.nvoices = s.nvoices

/-- The registers the mixer reads reach it only through TICK and RENDER: DELTA and HW_VOL are written by
TICK alone, ACT_ADDR, ACT_LEN and POS by RENDER alone, RESET apart (R140, and the table after R14). -/
def Obligations.MixerRegistersChangeOnlyInTickAndRender : Prop :=
  ∀ (i : Instr) (s t : State), exec i s = .next t → i ≠ .reset →
    (i ≠ .tick → t.voices.map (fun x => (x.delta, x.hwVol)) =
      s.voices.map (fun x => (x.delta, x.hwVol))) ∧
    ((∀ n, i ≠ .render n) → t.voices.map (fun x => (x.actAddr, x.actLen, x.pos)) =
      s.voices.map (fun x => (x.actAddr, x.actLen, x.pos)))

/-- RENDER writes ACT_ADDR, ACT_LEN, POS, LOOP_CNT, MODE and the events, and no other register (R150).
-/
def Obligations.RenderChangesNoMacroRegister : Prop :=
  ∀ (n : BitVec 24) (s t : State), exec (.render n) s = .next t →
    t.glob = s.glob ∧ t.nvoices = s.nvoices ∧
    ∀ (k : Nat) (x y : Voice), s.voices[k]? = some x → t.voices[k]? = some y →
      y = { x with
        actAddr := y.actAddr, actLen := y.actLen, pos := y.pos, loopCnt := y.loopCnt
        on := y.on, committed := y.committed, loopPend := y.loopPend
        evLoopDone := y.evLoopDone, evStopped := y.evStopped } ∧
      (y.on = true → x.on = true)

/-- Events are sticky: only CLREVT and RESET clear one, EV_STOPPED is set by RENDER alone, and
EV_LOOPDONE by RENDER and LOOPWAIT 0 alone (R17, R186). -/
def Obligations.EventsAreSticky : Prop :=
  ∀ (i : Instr) (s t : State) (k : Nat) (x y : Voice), exec i s = .next t →
    s.voices[k]? = some x → t.voices[k]? = some y →
    ((∀ v l e, i ≠ .clrevt v l e) → i ≠ .reset →
      (x.evLoopDone = true → y.evLoopDone = true) ∧ (x.evStopped = true → y.evStopped = true)) ∧
    ((∀ n, i ≠ .render n) → (y.evStopped = true → x.evStopped = true) ∧
      ((∀ v, i ≠ .loopwait v 0) → y.evLoopDone = true → x.evLoopDone = true))

/-- MASTER_VOL and the fade registers change only by SETMVOL, FADE, TICK and RESET, and CFG only by
SETCFG and RESET (the "Written by" column of R25, R29). -/
def Obligations.GlobalsChangeOnlyByTheirCommands : Prop :=
  ∀ (i : Instr) (s t : State), exec i s = .next t → i ≠ .reset →
    ((∀ b, i ≠ .setcfg b) → t.glob.noAddBeg = s.glob.noAddBeg) ∧
    ((∀ b, i ≠ .setmvol b) → (∀ a b, i ≠ .fade a b) → i ≠ .tick →
      t.glob = { s.glob with noAddBeg := t.glob.noAddBeg })

/-- No voice can observe another: two instances that agree on everything but other voices' registers
agree, after any command, on this voice, on the globals, on what a command to this voice answers, and on
every channel no other voice feeds (R195, R131, R159). -/
def Obligations.VoicesDoNotObserveEachOther : Prop :=
  ∀ (i : Instr) (s s' t t' : State) (v : Nat),
    s.params = s'.params → s.smpl = s'.smpl → s.glob = s'.glob → s.nvoices = s'.nvoices →
    s.voices[v]? = s'.voices[v]? → exec i s = .next t → exec i s' = .next t' →
    t.voices[v]? = t'.voices[v]? ∧ t.glob = t'.glob ∧
    ((∀ u : VoiceSel, i.voice? = some u → u.toNat = v) → t.response = t'.response) ∧
    ∀ c, (∀ u < s.nvoices, s.params.routeOf u = c → u = v) → t.out[c]? = t'.out[c]?

/-! ## The invariant -/

/-- The power-on state of every legal instance meets the invariant, and so does the default one (R33,
R200; the default sample memory is the model's choice, log 3). -/
def Obligations.PowerOnStateMeetsTheInvariant : Prop :=
  (∀ (p : Params) (nv : Nat) (m : Memory), p.Legal nv → m.wf = true →
    (∀ c ∈ m, c.1 < p.smplSize) → (State.powerOn p nv m).Inv) ∧
  State.reset.Inv

/-- Every step keeps the invariant: parameters legal, the image canonical, COMMITTED only with ON (R15),
a running voice inside its window (R20), LOOP_CNT at least 1 exactly while LOOPPEND (R158), the
committed pair equal to the save pair (90_conflicts.md C6), FADE_SLOPE -1, 0 or +1 and toward its target
(R27, R139). -/
def Obligations.EveryStepKeepsTheInvariant : Prop :=
  ∀ s t : State, s.Inv → step s = .next t → t.Inv
end

