-- ==== Sys2Proof/Laws/Arith.lean ====
section
/-! SUPPORT. The arithmetic primitives of R7 and R8, each said once in the machine's own bit-vector or
integer terms, so that no later proof unfolds them. -/

namespace Sys2Proof.Machine

/-- A signed step added to a register is bit-vector addition of the step at the register's width. -/
theorem addSigned_eq {n m : Nat} (r : BitVec n) (d : BitVec m) :
    addSigned r d = r + d.signExtend n := by
  simp [addSigned, trunc, BitVec.signExtend, BitVec.ofInt_add]

/-- `neg_N` is bit-vector negation. -/
theorem negate_eq {n : Nat} (x : BitVec n) : negate x = -x := by
  simp [negate, trunc, BitVec.ofInt_neg]

/-- `sat` is a clamp. -/
theorem sat_eq_max_min {lo hi : Int} (h : lo ≤ hi) (x : Int) : sat x lo hi = max lo (min hi x) := by
  unfold sat
  split
  · omega
  · split <;> omega

/-- A saturated value lies in its range. -/
theorem sat_mem {lo hi : Int} (h : lo ≤ hi) (x : Int) : lo ≤ sat x lo hi ∧ sat x lo hi ≤ hi := by
  rw [sat_eq_max_min h]
  omega

/-- `trunc_N` of a value in the unsigned range keeps it. -/
theorem toNat_trunc_of_lt {n : Nat} {x : Int} (h0 : 0 ≤ x) (h1 : x < (2 ^ n : Nat)) :
    ((trunc n x).toNat : Int) = x := by
  rw [trunc, BitVec.toNat_ofInt, Int.toNat_of_nonneg (Int.emod_nonneg _ (by positivity)),
    Int.emod_eq_of_lt h0 h1]

/-- A countdown at 0 or 1 fires and reloads (R8). -/
theorem countdown_fire {c r : Byte} (h : c.toNat ≤ 1) : countdown c r = (true, r) := by
  simp [countdown, h]

/-- A countdown above 1 goes down by one (R8). -/
theorem countdown_wait {c r : Byte} (h : 1 < c.toNat) : countdown c r = (false, c - 1) := by
  have hc : ¬ c.toNat ≤ 1 := by omega
  simp only [countdown, hc, if_false, Prod.mk.injEq, true_and]
  apply BitVec.eq_of_toNat_eq
  have := c.isLt
  rw [BitVec.toNat_ofNat, BitVec.toNat_sub_of_le (by simp [BitVec.le_def]; omega)]
  simp
  omega

end Sys2Proof.Machine
end

