-- ==== Sys2Proof/Laws/Decode.lean ====
section
/-! SUPPORT. The fields of a packed word, of each operand format and of the encoder's masks: what a word
packed from fields decodes to. -/

namespace Sys2Proof

@[simp] theorem vsField_packWord (v : VoiceSel) (op : BitVec 5) (x : BitVec 24) :
    vsField (packWord v op x) = v := by
  ext i hi
  simp only [vsField, packWord, BitVec.getElem_extractLsb', BitVec.getLsbD_append]
  simp [show ¬ 29 + i < 24 by omega, show ¬ 29 + i - 24 < 5 by omega,
    show 29 + i - 24 - 5 = i by omega, hi]

@[simp] theorem opField_packWord (v : VoiceSel) (op : BitVec 5) (x : BitVec 24) :
    opField (packWord v op x) = op := by
  ext i hi
  simp only [opField, packWord, BitVec.getElem_extractLsb', BitVec.getLsbD_append]
  simp [show ¬ 24 + i < 24 by omega, hi]

@[simp] theorem operandField_packWord (v : VoiceSel) (op : BitVec 5) (x : BitVec 24) :
    operandField (packWord v op x) = x := by
  ext i hi
  simp only [operandField, packWord, BitVec.getElem_extractLsb', BitVec.getLsbD_append]
  simp [show i < 24 by omega]

/-- A packed word of the voice class decodes by R63's table. -/
theorem decode_packWord_voice {v : VoiceSel} (h : v ≠ 7) (op : BitVec 5) (x : BitVec 24) :
    decode (packWord v op x) = decodeVoice v op x := by
  rw [decode, vsField_packWord, opField_packWord, operandField_packWord, if_neg h]

/-- A packed word of the global class decodes by R64's table. -/
theorem decode_packWord_global (op : BitVec 5) (x : BitVec 24) :
    decode (packWord 7 op x) = decodeGlobal op x := by simp [decode]

/-! ## Operand formats -/

@[simp] theorem operandB3_append (x : BitVec 16) (b : Byte) :
    operandB3 (x ++ b : BitVec 24) = b := by
  ext i hi
  simp only [operandB3, BitVec.getElem_extractLsb', BitVec.getLsbD_append]
  simp [hi]

@[simp] theorem operandH16_append (x : Byte) (h : Half) :
    operandH16 (x ++ h : BitVec 24) = h := by
  ext i hi
  simp only [operandH16, BitVec.getElem_extractLsb', BitVec.getLsbD_append]
  simp [hi]

@[simp] theorem operandB1_append (x : Byte) (h : Half) : operandB1 (x ++ h : BitVec 24) = x := by
  ext i hi
  simp only [operandB1, BitVec.getElem_extractLsb', BitVec.getLsbD_append]
  simp [show ¬ 16 + i < 16 by omega, BitVec.getLsbD_eq_getElem hi]

@[simp] theorem operandLen_append (x : BitVec 6) (n : Len) :
    operandLen (x ++ n : BitVec 24) = n := by
  ext i hi
  simp only [operandLen, BitVec.getElem_extractLsb', BitVec.getLsbD_append]
  simp [hi]

@[simp] theorem operandB1_bytes (b1 b2 b3 : Byte) : operandB1 (b1 ++ b2 ++ b3 : BitVec 24) = b1 := by
  ext i hi
  simp only [operandB1, BitVec.getElem_extractLsb', BitVec.getLsbD_append]
  simp [show ¬ 16 + i < 8 by omega, show ¬ 16 + i - 8 < 8 by omega, show 16 + i - 8 - 8 = i by omega,
    BitVec.getLsbD_eq_getElem hi]

@[simp] theorem operandB2_bytes (b1 b2 b3 : Byte) : operandB2 (b1 ++ b2 ++ b3 : BitVec 24) = b2 := by
  ext i hi
  simp only [operandB2, BitVec.getElem_extractLsb', BitVec.getLsbD_append]
  simp [show ¬ 8 + i < 8 by omega, hi]

@[simp] theorem operandB3_bytes (b1 b2 b3 : Byte) : operandB3 (b1 ++ b2 ++ b3 : BitVec 24) = b3 := by
  ext i hi
  simp only [operandB3, BitVec.getElem_extractLsb', BitVec.getLsbD_append]
  simp [hi]

/-- The operand bit that CLREVT or SETCFG reads is the bit of `b3` (R172, R176). -/
theorem getLsbD_operandB3 (x : BitVec 24) {i : Nat} (h : i < 8) :
    (operandB3 x).getLsbD i = x.getLsbD i := by
  simp [operandB3, h]

@[simp] theorem eventMask_loopDone (l e : Bool) : (eventMask l e).getLsbD 4 = l := by
  cases l <;> cases e <;> decide

@[simp] theorem eventMask_stopped (l e : Bool) : (eventMask l e).getLsbD 5 = e := by
  cases l <;> cases e <;> decide

@[simp] theorem cfgBits_noAddBeg (b : Bool) : (cfgBits b).getLsbD 0 = b := by cases b <;> decide

/-- A word is the packing of its fields. -/
theorem packWord_fields (w : Word) : packWord (vsField w) (opField w) (operandField w) = w := by
  apply BitVec.eq_of_getLsbD_eq
  intro i hi
  simp only [packWord, vsField, opField, operandField, BitVec.getLsbD_append, BitVec.getLsbD_extractLsb']
  by_cases h1 : i < 24
  · simp [h1]
  · by_cases h2 : i - 24 < 5
    · simp [h1, h2, show 24 + (i - 24) = i by omega]
    · simp [h1, h2, show i - 24 - 5 < 3 by omega, show 29 + (i - 24 - 5) = i by omega]

end Sys2Proof
end

