-- ==== Sys2Proof/Laws/State.lean ====
section
/-! SUPPORT. One lemma per field per named update of a voice and of the state, each true by unfolding
the update once. -/

namespace Sys2Proof.Machine

/-! The end of a command (R67). -/

@[simp] theorem State.respond_params (s : State) (r : Word) : (s.respond r).params = s.params := rfl
@[simp] theorem State.respond_smpl (s : State) (r : Word) : (s.respond r).smpl = s.smpl := rfl
@[simp] theorem State.respond_voices (s : State) (r : Word) : (s.respond r).voices = s.voices := rfl
@[simp] theorem State.respond_glob (s : State) (r : Word) : (s.respond r).glob = s.glob := rfl
@[simp] theorem State.respond_port (s : State) (r : Word) : (s.respond r).port = s.port := rfl
@[simp] theorem State.respond_response (s : State) (r : Word) : (s.respond r).response = r := rfl
@[simp] theorem State.respond_out (s : State) (r : Word) : (s.respond r).out = [] := rfl
@[simp] theorem State.respond_nvoices (s : State) (r : Word) : (s.respond r).nvoices = s.nvoices := rfl

/-! `dma_off` (R90). -/

@[simp] theorem Voice.dmaOff_curPeriod (x : Voice) : (x.dmaOff).curPeriod = x.curPeriod := rfl
@[simp] theorem Voice.dmaOff_destPeriod (x : Voice) : (x.dmaOff).destPeriod = x.destPeriod := rfl
@[simp] theorem Voice.dmaOff_portaRate (x : Voice) : (x.dmaOff).portaRate = x.portaRate := rfl
@[simp] theorem Voice.dmaOff_vibPeriod (x : Voice) : (x.dmaOff).vibPeriod = x.vibPeriod := rfl
@[simp] theorem Voice.dmaOff_vibPhase (x : Voice) : (x.dmaOff).vibPhase = x.vibPhase := rfl
@[simp] theorem Voice.dmaOff_vibWidth (x : Voice) : (x.dmaOff).vibWidth = x.vibWidth := rfl
@[simp] theorem Voice.dmaOff_vibOffset (x : Voice) : (x.dmaOff).vibOffset = x.vibOffset := rfl
@[simp] theorem Voice.dmaOff_envRate (x : Voice) : (x.dmaOff).envRate = x.envRate := rfl
@[simp] theorem Voice.dmaOff_envReset (x : Voice) : (x.dmaOff).envReset = x.envReset := rfl
@[simp] theorem Voice.dmaOff_envCount (x : Voice) : (x.dmaOff).envCount = x.envCount := rfl
@[simp] theorem Voice.dmaOff_envTarget (x : Voice) : (x.dmaOff).envTarget = x.envTarget := rfl
@[simp] theorem Voice.dmaOff_curVol (x : Voice) : (x.dmaOff).curVol = x.curVol := rfl
@[simp] theorem Voice.dmaOff_curAddr (x : Voice) : (x.dmaOff).curAddr = x.curAddr := rfl
@[simp] theorem Voice.dmaOff_curLen (x : Voice) : (x.dmaOff).curLen = x.curLen := rfl
@[simp] theorem Voice.dmaOff_saveAddr (x : Voice) : (x.dmaOff).saveAddr = x.saveAddr := rfl
@[simp] theorem Voice.dmaOff_saveLen (x : Voice) : (x.dmaOff).saveLen = x.saveLen := rfl
@[simp] theorem Voice.dmaOff_aboDelta (x : Voice) : (x.dmaOff).aboDelta = x.aboDelta := rfl
@[simp] theorem Voice.dmaOff_aboReset (x : Voice) : (x.dmaOff).aboReset = x.aboReset := rfl
@[simp] theorem Voice.dmaOff_aboCount (x : Voice) : (x.dmaOff).aboCount = x.aboCount := rfl
@[simp] theorem Voice.dmaOff_actAddr (x : Voice) : (x.dmaOff).actAddr = x.actAddr := rfl
@[simp] theorem Voice.dmaOff_actLen (x : Voice) : (x.dmaOff).actLen = x.actLen := rfl
@[simp] theorem Voice.dmaOff_pos (x : Voice) : (x.dmaOff).pos = x.pos := rfl
@[simp] theorem Voice.dmaOff_delta (x : Voice) : (x.dmaOff).delta = x.delta := rfl
@[simp] theorem Voice.dmaOff_hwVol (x : Voice) : (x.dmaOff).hwVol = x.hwVol := rfl
@[simp] theorem Voice.dmaOff_loopCnt (x : Voice) : (x.dmaOff).loopCnt = 0 := rfl
@[simp] theorem Voice.dmaOff_on (x : Voice) : (x.dmaOff).on = false := rfl
@[simp] theorem Voice.dmaOff_committed (x : Voice) : (x.dmaOff).committed = false := rfl
@[simp] theorem Voice.dmaOff_loopPend (x : Voice) : (x.dmaOff).loopPend = false := rfl
@[simp] theorem Voice.dmaOff_loopPolicy (x : Voice) : (x.dmaOff).loopPolicy = x.loopPolicy := rfl
@[simp] theorem Voice.dmaOff_evLoopDone (x : Voice) : (x.dmaOff).evLoopDone = x.evLoopDone := rfl
@[simp] theorem Voice.dmaOff_evStopped (x : Voice) : (x.dmaOff).evStopped = x.evStopped := rfl

/-! `stop_voice` (R160). -/

@[simp] theorem Voice.stop_curPeriod (x : Voice) : (x.stop).curPeriod = x.curPeriod := rfl
@[simp] theorem Voice.stop_destPeriod (x : Voice) : (x.stop).destPeriod = x.destPeriod := rfl
@[simp] theorem Voice.stop_portaRate (x : Voice) : (x.stop).portaRate = x.portaRate := rfl
@[simp] theorem Voice.stop_vibPeriod (x : Voice) : (x.stop).vibPeriod = x.vibPeriod := rfl
@[simp] theorem Voice.stop_vibPhase (x : Voice) : (x.stop).vibPhase = x.vibPhase := rfl
@[simp] theorem Voice.stop_vibWidth (x : Voice) : (x.stop).vibWidth = x.vibWidth := rfl
@[simp] theorem Voice.stop_vibOffset (x : Voice) : (x.stop).vibOffset = x.vibOffset := rfl
@[simp] theorem Voice.stop_envRate (x : Voice) : (x.stop).envRate = x.envRate := rfl
@[simp] theorem Voice.stop_envReset (x : Voice) : (x.stop).envReset = x.envReset := rfl
@[simp] theorem Voice.stop_envCount (x : Voice) : (x.stop).envCount = x.envCount := rfl
@[simp] theorem Voice.stop_envTarget (x : Voice) : (x.stop).envTarget = x.envTarget := rfl
@[simp] theorem Voice.stop_curVol (x : Voice) : (x.stop).curVol = x.curVol := rfl
@[simp] theorem Voice.stop_curAddr (x : Voice) : (x.stop).curAddr = x.curAddr := rfl
@[simp] theorem Voice.stop_curLen (x : Voice) : (x.stop).curLen = x.curLen := rfl
@[simp] theorem Voice.stop_saveAddr (x : Voice) : (x.stop).saveAddr = x.saveAddr := rfl
@[simp] theorem Voice.stop_saveLen (x : Voice) : (x.stop).saveLen = x.saveLen := rfl
@[simp] theorem Voice.stop_aboDelta (x : Voice) : (x.stop).aboDelta = x.aboDelta := rfl
@[simp] theorem Voice.stop_aboReset (x : Voice) : (x.stop).aboReset = x.aboReset := rfl
@[simp] theorem Voice.stop_aboCount (x : Voice) : (x.stop).aboCount = x.aboCount := rfl
@[simp] theorem Voice.stop_actAddr (x : Voice) : (x.stop).actAddr = x.actAddr := rfl
@[simp] theorem Voice.stop_actLen (x : Voice) : (x.stop).actLen = 0 := rfl
@[simp] theorem Voice.stop_pos (x : Voice) : (x.stop).pos = 0 := rfl
@[simp] theorem Voice.stop_delta (x : Voice) : (x.stop).delta = x.delta := rfl
@[simp] theorem Voice.stop_hwVol (x : Voice) : (x.stop).hwVol = x.hwVol := rfl
@[simp] theorem Voice.stop_loopCnt (x : Voice) : (x.stop).loopCnt = 0 := rfl
@[simp] theorem Voice.stop_on (x : Voice) : (x.stop).on = false := rfl
@[simp] theorem Voice.stop_committed (x : Voice) : (x.stop).committed = false := rfl
@[simp] theorem Voice.stop_loopPend (x : Voice) : (x.stop).loopPend = false := rfl
@[simp] theorem Voice.stop_loopPolicy (x : Voice) : (x.stop).loopPolicy = x.loopPolicy := rfl
@[simp] theorem Voice.stop_evLoopDone (x : Voice) : (x.stop).evLoopDone = x.evLoopDone := rfl
@[simp] theorem Voice.stop_evStopped (x : Voice) : (x.stop).evStopped = true := rfl

/-! `reset_fx` (R115). -/

@[simp] theorem Voice.resetFx_curPeriod (x : Voice) : (x.resetFx).curPeriod = x.destPeriod := rfl
@[simp] theorem Voice.resetFx_destPeriod (x : Voice) : (x.resetFx).destPeriod = x.destPeriod := rfl
@[simp] theorem Voice.resetFx_portaRate (x : Voice) : (x.resetFx).portaRate = 0 := rfl
@[simp] theorem Voice.resetFx_vibPeriod (x : Voice) : (x.resetFx).vibPeriod = 0 := rfl
@[simp] theorem Voice.resetFx_vibPhase (x : Voice) : (x.resetFx).vibPhase = 0 := rfl
@[simp] theorem Voice.resetFx_vibWidth (x : Voice) : (x.resetFx).vibWidth = 0 := rfl
@[simp] theorem Voice.resetFx_vibOffset (x : Voice) : (x.resetFx).vibOffset = 0 := rfl
@[simp] theorem Voice.resetFx_envRate (x : Voice) : (x.resetFx).envRate = 0 := rfl
@[simp] theorem Voice.resetFx_envReset (x : Voice) : (x.resetFx).envReset = 0 := rfl
@[simp] theorem Voice.resetFx_envCount (x : Voice) : (x.resetFx).envCount = 0 := rfl
@[simp] theorem Voice.resetFx_envTarget (x : Voice) : (x.resetFx).envTarget = 0 := rfl
@[simp] theorem Voice.resetFx_curVol (x : Voice) : (x.resetFx).curVol = x.curVol := rfl
@[simp] theorem Voice.resetFx_curAddr (x : Voice) : (x.resetFx).curAddr = x.curAddr := rfl
@[simp] theorem Voice.resetFx_curLen (x : Voice) : (x.resetFx).curLen = x.curLen := rfl
@[simp] theorem Voice.resetFx_saveAddr (x : Voice) : (x.resetFx).saveAddr = x.saveAddr := rfl
@[simp] theorem Voice.resetFx_saveLen (x : Voice) : (x.resetFx).saveLen = x.saveLen := rfl
@[simp] theorem Voice.resetFx_aboDelta (x : Voice) : (x.resetFx).aboDelta = 0 := rfl
@[simp] theorem Voice.resetFx_aboReset (x : Voice) : (x.resetFx).aboReset = 0 := rfl
@[simp] theorem Voice.resetFx_aboCount (x : Voice) : (x.resetFx).aboCount = 0 := rfl
@[simp] theorem Voice.resetFx_actAddr (x : Voice) : (x.resetFx).actAddr = x.actAddr := rfl
@[simp] theorem Voice.resetFx_actLen (x : Voice) : (x.resetFx).actLen = x.actLen := rfl
@[simp] theorem Voice.resetFx_pos (x : Voice) : (x.resetFx).pos = x.pos := rfl
@[simp] theorem Voice.resetFx_delta (x : Voice) : (x.resetFx).delta = x.delta := rfl
@[simp] theorem Voice.resetFx_hwVol (x : Voice) : (x.resetFx).hwVol = x.hwVol := rfl
@[simp] theorem Voice.resetFx_loopCnt (x : Voice) : (x.resetFx).loopCnt = x.loopCnt := rfl
@[simp] theorem Voice.resetFx_on (x : Voice) : (x.resetFx).on = x.on := rfl
@[simp] theorem Voice.resetFx_committed (x : Voice) : (x.resetFx).committed = x.committed := rfl
@[simp] theorem Voice.resetFx_loopPend (x : Voice) : (x.resetFx).loopPend = x.loopPend := rfl
@[simp] theorem Voice.resetFx_loopPolicy (x : Voice) : (x.resetFx).loopPolicy = x.loopPolicy := rfl
@[simp] theorem Voice.resetFx_evLoopDone (x : Voice) : (x.resetFx).evLoopDone = x.evLoopDone := rfl
@[simp] theorem Voice.resetFx_evStopped (x : Voice) : (x.resetFx).evStopped = x.evStopped := rfl

/-! Both starts (R83, R84, R137). -/

@[simp] theorem Voice.setStart_curPeriod (x : Voice) (a : Addr) : (x.setStart a).curPeriod = x.curPeriod := rfl
@[simp] theorem Voice.setStart_destPeriod (x : Voice) (a : Addr) : (x.setStart a).destPeriod = x.destPeriod := rfl
@[simp] theorem Voice.setStart_portaRate (x : Voice) (a : Addr) : (x.setStart a).portaRate = x.portaRate := rfl
@[simp] theorem Voice.setStart_vibPeriod (x : Voice) (a : Addr) : (x.setStart a).vibPeriod = x.vibPeriod := rfl
@[simp] theorem Voice.setStart_vibPhase (x : Voice) (a : Addr) : (x.setStart a).vibPhase = x.vibPhase := rfl
@[simp] theorem Voice.setStart_vibWidth (x : Voice) (a : Addr) : (x.setStart a).vibWidth = x.vibWidth := rfl
@[simp] theorem Voice.setStart_vibOffset (x : Voice) (a : Addr) : (x.setStart a).vibOffset = x.vibOffset := rfl
@[simp] theorem Voice.setStart_envRate (x : Voice) (a : Addr) : (x.setStart a).envRate = x.envRate := rfl
@[simp] theorem Voice.setStart_envReset (x : Voice) (a : Addr) : (x.setStart a).envReset = x.envReset := rfl
@[simp] theorem Voice.setStart_envCount (x : Voice) (a : Addr) : (x.setStart a).envCount = x.envCount := rfl
@[simp] theorem Voice.setStart_envTarget (x : Voice) (a : Addr) : (x.setStart a).envTarget = x.envTarget := rfl
@[simp] theorem Voice.setStart_curVol (x : Voice) (a : Addr) : (x.setStart a).curVol = x.curVol := rfl
@[simp] theorem Voice.setStart_curAddr (x : Voice) (a : Addr) : (x.setStart a).curAddr = a := rfl
@[simp] theorem Voice.setStart_curLen (x : Voice) (a : Addr) : (x.setStart a).curLen = x.curLen := rfl
@[simp] theorem Voice.setStart_saveAddr (x : Voice) (a : Addr) : (x.setStart a).saveAddr = a := rfl
@[simp] theorem Voice.setStart_saveLen (x : Voice) (a : Addr) : (x.setStart a).saveLen = x.saveLen := rfl
@[simp] theorem Voice.setStart_aboDelta (x : Voice) (a : Addr) : (x.setStart a).aboDelta = x.aboDelta := rfl
@[simp] theorem Voice.setStart_aboReset (x : Voice) (a : Addr) : (x.setStart a).aboReset = x.aboReset := rfl
@[simp] theorem Voice.setStart_aboCount (x : Voice) (a : Addr) : (x.setStart a).aboCount = x.aboCount := rfl
@[simp] theorem Voice.setStart_actAddr (x : Voice) (a : Addr) : (x.setStart a).actAddr = x.actAddr := rfl
@[simp] theorem Voice.setStart_actLen (x : Voice) (a : Addr) : (x.setStart a).actLen = x.actLen := rfl
@[simp] theorem Voice.setStart_pos (x : Voice) (a : Addr) : (x.setStart a).pos = x.pos := rfl
@[simp] theorem Voice.setStart_delta (x : Voice) (a : Addr) : (x.setStart a).delta = x.delta := rfl
@[simp] theorem Voice.setStart_hwVol (x : Voice) (a : Addr) : (x.setStart a).hwVol = x.hwVol := rfl
@[simp] theorem Voice.setStart_loopCnt (x : Voice) (a : Addr) : (x.setStart a).loopCnt = x.loopCnt := rfl
@[simp] theorem Voice.setStart_on (x : Voice) (a : Addr) : (x.setStart a).on = x.on := rfl
@[simp] theorem Voice.setStart_committed (x : Voice) (a : Addr) : (x.setStart a).committed = x.committed := rfl
@[simp] theorem Voice.setStart_loopPend (x : Voice) (a : Addr) : (x.setStart a).loopPend = x.loopPend := rfl
@[simp] theorem Voice.setStart_loopPolicy (x : Voice) (a : Addr) : (x.setStart a).loopPolicy = x.loopPolicy := rfl
@[simp] theorem Voice.setStart_evLoopDone (x : Voice) (a : Addr) : (x.setStart a).evLoopDone = x.evLoopDone := rfl
@[simp] theorem Voice.setStart_evStopped (x : Voice) (a : Addr) : (x.setStart a).evStopped = x.evStopped := rfl

/-! Both lengths (R85, R86). -/

@[simp] theorem Voice.setLength_curPeriod (x : Voice) (n : Len) : (x.setLength n).curPeriod = x.curPeriod := rfl
@[simp] theorem Voice.setLength_destPeriod (x : Voice) (n : Len) : (x.setLength n).destPeriod = x.destPeriod := rfl
@[simp] theorem Voice.setLength_portaRate (x : Voice) (n : Len) : (x.setLength n).portaRate = x.portaRate := rfl
@[simp] theorem Voice.setLength_vibPeriod (x : Voice) (n : Len) : (x.setLength n).vibPeriod = x.vibPeriod := rfl
@[simp] theorem Voice.setLength_vibPhase (x : Voice) (n : Len) : (x.setLength n).vibPhase = x.vibPhase := rfl
@[simp] theorem Voice.setLength_vibWidth (x : Voice) (n : Len) : (x.setLength n).vibWidth = x.vibWidth := rfl
@[simp] theorem Voice.setLength_vibOffset (x : Voice) (n : Len) : (x.setLength n).vibOffset = x.vibOffset := rfl
@[simp] theorem Voice.setLength_envRate (x : Voice) (n : Len) : (x.setLength n).envRate = x.envRate := rfl
@[simp] theorem Voice.setLength_envReset (x : Voice) (n : Len) : (x.setLength n).envReset = x.envReset := rfl
@[simp] theorem Voice.setLength_envCount (x : Voice) (n : Len) : (x.setLength n).envCount = x.envCount := rfl
@[simp] theorem Voice.setLength_envTarget (x : Voice) (n : Len) : (x.setLength n).envTarget = x.envTarget := rfl
@[simp] theorem Voice.setLength_curVol (x : Voice) (n : Len) : (x.setLength n).curVol = x.curVol := rfl
@[simp] theorem Voice.setLength_curAddr (x : Voice) (n : Len) : (x.setLength n).curAddr = x.curAddr := rfl
@[simp] theorem Voice.setLength_curLen (x : Voice) (n : Len) : (x.setLength n).curLen = n := rfl
@[simp] theorem Voice.setLength_saveAddr (x : Voice) (n : Len) : (x.setLength n).saveAddr = x.saveAddr := rfl
@[simp] theorem Voice.setLength_saveLen (x : Voice) (n : Len) : (x.setLength n).saveLen = n := rfl
@[simp] theorem Voice.setLength_aboDelta (x : Voice) (n : Len) : (x.setLength n).aboDelta = x.aboDelta := rfl
@[simp] theorem Voice.setLength_aboReset (x : Voice) (n : Len) : (x.setLength n).aboReset = x.aboReset := rfl
@[simp] theorem Voice.setLength_aboCount (x : Voice) (n : Len) : (x.setLength n).aboCount = x.aboCount := rfl
@[simp] theorem Voice.setLength_actAddr (x : Voice) (n : Len) : (x.setLength n).actAddr = x.actAddr := rfl
@[simp] theorem Voice.setLength_actLen (x : Voice) (n : Len) : (x.setLength n).actLen = x.actLen := rfl
@[simp] theorem Voice.setLength_pos (x : Voice) (n : Len) : (x.setLength n).pos = x.pos := rfl
@[simp] theorem Voice.setLength_delta (x : Voice) (n : Len) : (x.setLength n).delta = x.delta := rfl
@[simp] theorem Voice.setLength_hwVol (x : Voice) (n : Len) : (x.setLength n).hwVol = x.hwVol := rfl
@[simp] theorem Voice.setLength_loopCnt (x : Voice) (n : Len) : (x.setLength n).loopCnt = x.loopCnt := rfl
@[simp] theorem Voice.setLength_on (x : Voice) (n : Len) : (x.setLength n).on = x.on := rfl
@[simp] theorem Voice.setLength_committed (x : Voice) (n : Len) : (x.setLength n).committed = x.committed := rfl
@[simp] theorem Voice.setLength_loopPend (x : Voice) (n : Len) : (x.setLength n).loopPend = x.loopPend := rfl
@[simp] theorem Voice.setLength_loopPolicy (x : Voice) (n : Len) : (x.setLength n).loopPolicy = x.loopPolicy := rfl
@[simp] theorem Voice.setLength_evLoopDone (x : Voice) (n : Len) : (x.setLength n).evLoopDone = x.evLoopDone := rfl
@[simp] theorem Voice.setLength_evStopped (x : Voice) (n : Len) : (x.setLength n).evStopped = x.evStopped := rfl

/-! Both periods (R102, R103). -/

@[simp] theorem Voice.setPeriod_curPeriod (x : Voice) (p : Half) : (x.setPeriod p).curPeriod = p := rfl
@[simp] theorem Voice.setPeriod_destPeriod (x : Voice) (p : Half) : (x.setPeriod p).destPeriod = p := rfl
@[simp] theorem Voice.setPeriod_portaRate (x : Voice) (p : Half) : (x.setPeriod p).portaRate = x.portaRate := rfl
@[simp] theorem Voice.setPeriod_vibPeriod (x : Voice) (p : Half) : (x.setPeriod p).vibPeriod = x.vibPeriod := rfl
@[simp] theorem Voice.setPeriod_vibPhase (x : Voice) (p : Half) : (x.setPeriod p).vibPhase = x.vibPhase := rfl
@[simp] theorem Voice.setPeriod_vibWidth (x : Voice) (p : Half) : (x.setPeriod p).vibWidth = x.vibWidth := rfl
@[simp] theorem Voice.setPeriod_vibOffset (x : Voice) (p : Half) : (x.setPeriod p).vibOffset = x.vibOffset := rfl
@[simp] theorem Voice.setPeriod_envRate (x : Voice) (p : Half) : (x.setPeriod p).envRate = x.envRate := rfl
@[simp] theorem Voice.setPeriod_envReset (x : Voice) (p : Half) : (x.setPeriod p).envReset = x.envReset := rfl
@[simp] theorem Voice.setPeriod_envCount (x : Voice) (p : Half) : (x.setPeriod p).envCount = x.envCount := rfl
@[simp] theorem Voice.setPeriod_envTarget (x : Voice) (p : Half) : (x.setPeriod p).envTarget = x.envTarget := rfl
@[simp] theorem Voice.setPeriod_curVol (x : Voice) (p : Half) : (x.setPeriod p).curVol = x.curVol := rfl
@[simp] theorem Voice.setPeriod_curAddr (x : Voice) (p : Half) : (x.setPeriod p).curAddr = x.curAddr := rfl
@[simp] theorem Voice.setPeriod_curLen (x : Voice) (p : Half) : (x.setPeriod p).curLen = x.curLen := rfl
@[simp] theorem Voice.setPeriod_saveAddr (x : Voice) (p : Half) : (x.setPeriod p).saveAddr = x.saveAddr := rfl
@[simp] theorem Voice.setPeriod_saveLen (x : Voice) (p : Half) : (x.setPeriod p).saveLen = x.saveLen := rfl
@[simp] theorem Voice.setPeriod_aboDelta (x : Voice) (p : Half) : (x.setPeriod p).aboDelta = x.aboDelta := rfl
@[simp] theorem Voice.setPeriod_aboReset (x : Voice) (p : Half) : (x.setPeriod p).aboReset = x.aboReset := rfl
@[simp] theorem Voice.setPeriod_aboCount (x : Voice) (p : Half) : (x.setPeriod p).aboCount = x.aboCount := rfl
@[simp] theorem Voice.setPeriod_actAddr (x : Voice) (p : Half) : (x.setPeriod p).actAddr = x.actAddr := rfl
@[simp] theorem Voice.setPeriod_actLen (x : Voice) (p : Half) : (x.setPeriod p).actLen = x.actLen := rfl
@[simp] theorem Voice.setPeriod_pos (x : Voice) (p : Half) : (x.setPeriod p).pos = x.pos := rfl
@[simp] theorem Voice.setPeriod_delta (x : Voice) (p : Half) : (x.setPeriod p).delta = x.delta := rfl
@[simp] theorem Voice.setPeriod_hwVol (x : Voice) (p : Half) : (x.setPeriod p).hwVol = x.hwVol := rfl
@[simp] theorem Voice.setPeriod_loopCnt (x : Voice) (p : Half) : (x.setPeriod p).loopCnt = x.loopCnt := rfl
@[simp] theorem Voice.setPeriod_on (x : Voice) (p : Half) : (x.setPeriod p).on = x.on := rfl
@[simp] theorem Voice.setPeriod_committed (x : Voice) (p : Half) : (x.setPeriod p).committed = x.committed := rfl
@[simp] theorem Voice.setPeriod_loopPend (x : Voice) (p : Half) : (x.setPeriod p).loopPend = x.loopPend := rfl
@[simp] theorem Voice.setPeriod_loopPolicy (x : Voice) (p : Half) : (x.setPeriod p).loopPolicy = x.loopPolicy := rfl
@[simp] theorem Voice.setPeriod_evLoopDone (x : Voice) (p : Half) : (x.setPeriod p).evLoopDone = x.evLoopDone := rfl
@[simp] theorem Voice.setPeriod_evStopped (x : Voice) (p : Half) : (x.setPeriod p).evStopped = x.evStopped := rfl

/-! The latch (R140). -/

@[simp] theorem Voice.latch_curPeriod (x : Voice) (p : Params) : (x.latch p).curPeriod = x.curPeriod := rfl
@[simp] theorem Voice.latch_destPeriod (x : Voice) (p : Params) : (x.latch p).destPeriod = x.destPeriod := rfl
@[simp] theorem Voice.latch_portaRate (x : Voice) (p : Params) : (x.latch p).portaRate = x.portaRate := rfl
@[simp] theorem Voice.latch_vibPeriod (x : Voice) (p : Params) : (x.latch p).vibPeriod = x.vibPeriod := rfl
@[simp] theorem Voice.latch_vibPhase (x : Voice) (p : Params) : (x.latch p).vibPhase = x.vibPhase := rfl
@[simp] theorem Voice.latch_vibWidth (x : Voice) (p : Params) : (x.latch p).vibWidth = x.vibWidth := rfl
@[simp] theorem Voice.latch_vibOffset (x : Voice) (p : Params) : (x.latch p).vibOffset = x.vibOffset := rfl
@[simp] theorem Voice.latch_envRate (x : Voice) (p : Params) : (x.latch p).envRate = x.envRate := rfl
@[simp] theorem Voice.latch_envReset (x : Voice) (p : Params) : (x.latch p).envReset = x.envReset := rfl
@[simp] theorem Voice.latch_envCount (x : Voice) (p : Params) : (x.latch p).envCount = x.envCount := rfl
@[simp] theorem Voice.latch_envTarget (x : Voice) (p : Params) : (x.latch p).envTarget = x.envTarget := rfl
@[simp] theorem Voice.latch_curVol (x : Voice) (p : Params) : (x.latch p).curVol = x.curVol := rfl
@[simp] theorem Voice.latch_curAddr (x : Voice) (p : Params) : (x.latch p).curAddr = x.curAddr := rfl
@[simp] theorem Voice.latch_curLen (x : Voice) (p : Params) : (x.latch p).curLen = x.curLen := rfl
@[simp] theorem Voice.latch_saveAddr (x : Voice) (p : Params) : (x.latch p).saveAddr = x.saveAddr := rfl
@[simp] theorem Voice.latch_saveLen (x : Voice) (p : Params) : (x.latch p).saveLen = x.saveLen := rfl
@[simp] theorem Voice.latch_aboDelta (x : Voice) (p : Params) : (x.latch p).aboDelta = x.aboDelta := rfl
@[simp] theorem Voice.latch_aboReset (x : Voice) (p : Params) : (x.latch p).aboReset = x.aboReset := rfl
@[simp] theorem Voice.latch_aboCount (x : Voice) (p : Params) : (x.latch p).aboCount = x.aboCount := rfl
@[simp] theorem Voice.latch_actAddr (x : Voice) (p : Params) : (x.latch p).actAddr = x.actAddr := rfl
@[simp] theorem Voice.latch_actLen (x : Voice) (p : Params) : (x.latch p).actLen = x.actLen := rfl
@[simp] theorem Voice.latch_pos (x : Voice) (p : Params) : (x.latch p).pos = x.pos := rfl
@[simp] theorem Voice.latch_delta (x : Voice) (p : Params) : (x.latch p).delta = BitVec.ofNat 32 (periodToDelta p x.curPeriod.toNat) := rfl
@[simp] theorem Voice.latch_hwVol (x : Voice) (p : Params) : (x.latch p).hwVol = x.curVol := rfl
@[simp] theorem Voice.latch_loopCnt (x : Voice) (p : Params) : (x.latch p).loopCnt = x.loopCnt := rfl
@[simp] theorem Voice.latch_on (x : Voice) (p : Params) : (x.latch p).on = x.on := rfl
@[simp] theorem Voice.latch_committed (x : Voice) (p : Params) : (x.latch p).committed = x.committed := rfl
@[simp] theorem Voice.latch_loopPend (x : Voice) (p : Params) : (x.latch p).loopPend = x.loopPend := rfl
@[simp] theorem Voice.latch_loopPolicy (x : Voice) (p : Params) : (x.latch p).loopPolicy = x.loopPolicy := rfl
@[simp] theorem Voice.latch_evLoopDone (x : Voice) (p : Params) : (x.latch p).evLoopDone = x.evLoopDone := rfl
@[simp] theorem Voice.latch_evStopped (x : Voice) (p : Params) : (x.latch p).evStopped = x.evStopped := rfl

end Sys2Proof.Machine
end

