-- ==== Sys2Proof/Laws/Ops.lean ====
section
/-! SUPPORT. What each shared operation can do, said once: reaching a voice, and the sample memory's
canonical form and read-after-write laws. -/

namespace Sys2Proof.Machine

/-! ## Reaching a voice -/

theorem onVoice_present {v : VoiceSel} {f : Voice → Voice} {s : State} {x : Voice}
    (h : s.voices[v.toNat]? = some x) :
    onVoice v f s =
      .next { s with voices := s.voices.set v.toNat (f x), response := 0, out := [] } := by
  simp [onVoice, h, State.respond]

theorem onVoice_absent {v : VoiceSel} {f : Voice → Voice} {s : State}
    (h : s.voices[v.toNat]? = none) :
    onVoice v f s = .next { s with response := 0, out := [] } := by
  simp [onVoice, h, doNothing, State.respond]

theorem readVoice_present {v : VoiceSel} {f : Voice → Word} {s : State} {x : Voice}
    (h : s.voices[v.toNat]? = some x) :
    readVoice v f s = .next { s with response := f x, out := [] } := by
  simp [readVoice, h, State.respond]

theorem readVoice_absent {v : VoiceSel} {f : Voice → Word} {s : State}
    (h : s.voices[v.toNat]? = none) :
    readVoice v f s = .next { s with response := 0, out := [] } := by
  simp [readVoice, h, doNothing, State.respond]

/-- Everything `onVoice` can do: it answers a next state that differs in the named voice, the response
and the output alone, and that voice is `f` of what it was. -/
theorem onVoice_cases (v : VoiceSel) (f : Voice → Voice) (s : State) :
    ∃ vs, onVoice v f s = .next { s with voices := vs, response := 0, out := [] } ∧
      ((s.voices[v.toNat]? = none ∧ vs = s.voices) ∨
        ∃ x, s.voices[v.toNat]? = some x ∧ vs = s.voices.set v.toNat (f x)) := by
  cases h : s.voices[v.toNat]? with
  | none => exact ⟨s.voices, by rw [onVoice_absent h], .inl ⟨rfl, rfl⟩⟩
  | some x => exact ⟨_, onVoice_present h, .inr ⟨x, rfl, rfl⟩⟩

/-- Everything `readVoice` can do: only the response and the output change. -/
theorem readVoice_cases (v : VoiceSel) (f : Voice → Word) (s : State) :
    ∃ r, readVoice v f s = .next { s with response := r, out := [] } := by
  cases h : s.voices[v.toNat]? with
  | none => exact ⟨0, readVoice_absent h⟩
  | some x => exact ⟨f x, readVoice_present h⟩

/-- A fact of all voices survives `onVoice` if its function keeps it. -/
theorem forall_mem_onVoice {P : Voice → Prop} {v : VoiceSel} {f : Voice → Voice} {s t : State}
    (hf : ∀ x, P x → P (f x)) (h : onVoice v f s = .next t) (hs : ∀ x ∈ s.voices, P x) :
    ∀ x ∈ t.voices, P x := by
  obtain ⟨vs, he, hv⟩ := onVoice_cases v f s
  rw [he] at h
  cases h
  rcases hv with ⟨-, rfl⟩ | ⟨x, hx, rfl⟩
  · exact hs
  · intro y hy
    rcases List.mem_or_eq_of_mem_set hy with h1 | rfl
    · exact hs y h1
    · exact hf x (hs x (List.mem_of_getElem? hx))

/-- Writing back the voice that is there changes nothing. -/
theorem voices_set_self {s : State} {k : Nat} {x : Voice} (h : s.voices[k]? = some x) :
    s.voices.set k x = s.voices := by
  obtain ⟨hk, rfl⟩ := List.getElem?_eq_some_iff.1 h
  exact List.set_getElem_self hk

/-! ## Sample memory -/

namespace Memory

theorem wfFrom_mono {lo lo' : Nat} {m : Memory} (h : lo' ≤ lo) (hm : Memory.wfFrom lo m = true) :
    Memory.wfFrom lo' m = true := by
  cases m with
  | nil => rfl
  | cons c m =>
    simp only [wfFrom, Bool.and_eq_true, decide_eq_true_eq] at hm ⊢
    exact ⟨⟨by omega, hm.1.2⟩, hm.2⟩

theorem wfFrom_drop {lo : Nat} {m : Memory} (a : Nat) (hm : Memory.wfFrom lo m = true) :
    Memory.wfFrom lo (m.drop a) = true := by
  induction m generalizing lo with
  | nil => rfl
  | cons c m ih =>
    simp only [wfFrom, Bool.and_eq_true, decide_eq_true_eq] at hm
    unfold Memory.drop
    split
    · exact wfFrom_mono (by omega) (ih hm.2)
    · simp [wfFrom, hm.1, ih hm.2]

theorem wfFrom_put {lo a : Nat} {b : Byte} {m : Memory} (hl : lo ≤ a) (hb : b ≠ unlisted)
    (hm : Memory.wfFrom lo m = true) (ha : ∀ c ∈ m, c.1 ≠ a) : Memory.wfFrom lo (m.put a b) = true := by
  induction m generalizing lo with
  | nil => simp [Memory.put, wfFrom, hl, hb]
  | cons c m ih =>
    simp only [wfFrom, Bool.and_eq_true, decide_eq_true_eq] at hm
    have hc := ha c (by simp)
    unfold Memory.put
    split
    · simp only [wfFrom, Bool.and_eq_true, decide_eq_true_eq]
      exact ⟨⟨hl, by simpa using hb⟩, ⟨by omega, hm.1.2⟩, hm.2⟩
    · simp only [wfFrom, Bool.and_eq_true, decide_eq_true_eq]
      exact ⟨hm.1, ih (by omega) hm.2 fun d hd => ha d (by simp [hd])⟩

theorem not_mem_drop (m : Memory) (a : Nat) : ∀ c ∈ m.drop a, c.1 ≠ a := by
  induction m with
  | nil => simp [Memory.drop]
  | cons c m ih =>
    unfold Memory.drop
    split
    · exact ih
    · rintro d (_ | ⟨_, hd⟩)
      · assumption
      · exact ih d hd

/-- A write keeps the canonical form. -/
theorem wf_write {m : Memory} (a : Nat) (b : Byte) (hm : m.wf = true) : (m.write a b).wf = true := by
  unfold Memory.write
  split
  · exact wfFrom_drop a hm
  · exact wfFrom_put (Nat.zero_le a) ‹_› (wfFrom_drop a hm) (not_mem_drop m a)

/-- Making an image keeps the canonical form. -/
theorem wf_load {m : Memory} (a : Nat) (bs : List Byte) (hm : m.wf = true) :
    (m.load a bs).wf = true := by
  induction bs generalizing m a with
  | nil => exact hm
  | cons b bs ih => exact ih (a + 1) (wf_write a b hm)

theorem read_drop (m : Memory) (a k : Nat) :
    (m.drop a).read k = if k = a then unlisted else m.read k := by
  induction m with
  | nil => simp [Memory.drop, Memory.read]
  | cons c m ih =>
    obtain ⟨i, b⟩ := c
    unfold Memory.drop
    by_cases h : i = a
    · rw [if_pos h, ih]
      by_cases hk : k = a
      · simp [hk]
      · simp [hk, Memory.read, h, Ne.symm hk]
    · rw [if_neg h]
      unfold Memory.read
      by_cases hk : i = k
      · simp [hk, show k ≠ a from hk ▸ h]
      · simp [hk, ih]

theorem read_put {m : Memory} {a : Nat} (b : Byte) (k : Nat) (ha : ∀ c ∈ m, c.1 ≠ a) :
    (m.put a b).read k = if k = a then b else m.read k := by
  induction m with
  | nil =>
    by_cases h : k = a
    · simp [Memory.put, Memory.read, h]
    · simp [Memory.put, Memory.read, h, Ne.symm h]
  | cons c m ih =>
    obtain ⟨i, d⟩ := c
    have hi : i ≠ a := ha (i, d) (by simp)
    have ih := ih fun c hc => ha c (by simp [hc])
    unfold Memory.put
    split
    · by_cases h : k = a
      · simp [Memory.read, h]
      · rw [Memory.read, if_neg (Ne.symm h), if_neg h]
    · unfold Memory.read
      by_cases h : i = k
      · simp [h, show k ≠ a from h ▸ hi]
      · simp [h, ih]

/-- A read after a write: the byte written at its address, and every other byte as before. -/
theorem read_write (m : Memory) (a : Nat) (b : Byte) (k : Nat) :
    (m.write a b).read k = if k = a then b else m.read k := by
  unfold Memory.write
  split
  · rename_i h
    rw [read_drop, h]
  · rw [read_put b k (not_mem_drop m a), read_drop]
    split <;> rfl

end Memory

end Sys2Proof.Machine
end

