-- ==== Sys2Proof/Laws/PerInstr.lean ====
section
/-! SUPPORT. Per-command facts of the encoding. The family RowBits says that a well-formed command's
word has the fixed bits of its row of spec/opcode_table.json (the row's `match` under its `mask`), and
that a voice-class word's `vs` is its voice. -/

namespace Sys2Proof.Laws

/-- A packed word's op field, by mask. -/
theorem packWord_and_op (v : VoiceSel) (op : BitVec 5) (x : BitVec 24) :
    packWord v op x &&& 0x1F000000#32 = packWord 0 op 0 := by
  rw [show 0x1F000000#32 = (0#3 : BitVec 3) ++ 0x1F#5 ++ 0#24 from rfl, packWord, packWord,
    BitVec.and_append, BitVec.and_append, show 0x1F#5 = BitVec.allOnes 5 from rfl,
    BitVec.and_allOnes]
  simp

/-- A packed word's opcode byte, by mask. -/
theorem packWord_and_opcode (v : VoiceSel) (op : BitVec 5) (x : BitVec 24) :
    packWord v op x &&& 0xFF000000#32 = packWord v op 0 := by
  rw [show 0xFF000000#32 = 7#3 ++ 0x1F#5 ++ 0#24 from rfl, packWord, packWord,
    BitVec.and_append, BitVec.and_append, show 0x1F#5 = BitVec.allOnes 5 from rfl,
    show 7#3 = BitVec.allOnes 3 from rfl, BitVec.and_allOnes,
    BitVec.and_allOnes]
  simp

namespace RowBits

/-- The `mask` and `match` of a command's row in spec/opcode_table.json. -/
def row : Instr → Word × Word
  | .nop => (0xFF000000#32, 0xE0000000#32)
  | .setmvol _ => (0xFF000000#32, 0xE1000000#32)
  | .fade _ _ => (0xFF000000#32, 0xE2000000#32)
  | .tick => (0xFF000000#32, 0xE3000000#32)
  | .render _ => (0xFF000000#32, 0xE4000000#32)
  | .rdglob _ => (0xFF000000#32, 0xE5000000#32)
  | .reset => (0xFF000000#32, 0xE6000000#32)
  | .setcfg _ => (0xFF000000#32, 0xE7000000#32)
  | .dmaoffr _ => (0x1F000000#32, 0x00000000#32)
  | .dmaon _ => (0x1F000000#32, 0x01000000#32)
  | .setbeg _ _ => (0x1F000000#32, 0x02000000#32)
  | .addbeg _ _ => (0x1F000000#32, 0x03000000#32)
  | .setlen _ _ => (0x1F000000#32, 0x04000000#32)
  | .addlen _ _ => (0x1F000000#32, 0x05000000#32)
  | .loopwait _ _ => (0x1F000000#32, 0x06000000#32)
  | .addvol _ _ => (0x1F000000#32, 0x07000000#32)
  | .setvol _ _ => (0x1F000000#32, 0x08000000#32)
  | .setper _ _ => (0x1F000000#32, 0x09000000#32)
  | .addper _ _ => (0x1F000000#32, 0x0A000000#32)
  | .porta _ _ _ => (0x1F000000#32, 0x0B000000#32)
  | .vibrato _ _ _ => (0x1F000000#32, 0x0C000000#32)
  | .envelope _ _ _ _ => (0x1F000000#32, 0x0D000000#32)
  | .resetfx _ => (0x1F000000#32, 0x0E000000#32)
  | .smploop _ _ => (0x1F000000#32, 0x0F000000#32)
  | .oneshot _ => (0x1F000000#32, 0x10000000#32)
  | .dmaoff _ => (0x1F000000#32, 0x11000000#32)
  | .oscbeg _ _ _ => (0x1F000000#32, 0x12000000#32)
  | .rdstat _ => (0x1F000000#32, 0x13000000#32)
  | .clrevt _ _ _ => (0x1F000000#32, 0x14000000#32)
  | .rdreg _ _ => (0x1F000000#32, 0x15000000#32)

/-- The command's word has its row's fixed bits, and names the command's voice. -/
def Statement (i : Instr) : Prop :=
  i.WellFormed → encode i &&& (row i).1 = (row i).2 ∧ ∀ v, i.voice? = some v → vsField (encode i) = v

theorem nop : Statement .nop := fun _ =>
  ⟨packWord_and_opcode .., fun _ h => nomatch h⟩

theorem setmvol (vol : Byte) : Statement (.setmvol vol) := fun _ =>
  ⟨packWord_and_opcode .., fun _ h => nomatch h⟩

theorem fade (speed target : Byte) : Statement (.fade speed target) := fun _ =>
  ⟨packWord_and_opcode .., fun _ h => nomatch h⟩

theorem tick : Statement .tick := fun _ =>
  ⟨packWord_and_opcode .., fun _ h => nomatch h⟩

theorem render (frames : BitVec 24) : Statement (.render frames) := fun _ =>
  ⟨packWord_and_opcode .., fun _ h => nomatch h⟩

theorem rdglob (idx : Byte) : Statement (.rdglob idx) := fun _ =>
  ⟨packWord_and_opcode .., fun _ h => nomatch h⟩

theorem reset : Statement .reset := fun _ =>
  ⟨packWord_and_opcode .., fun _ h => nomatch h⟩

theorem setcfg (noAddBeg : Bool) : Statement (.setcfg noAddBeg) := fun _ =>
  ⟨packWord_and_opcode .., fun _ h => nomatch h⟩

theorem dmaoffr (v : VoiceSel) : Statement (.dmaoffr v) := fun _ =>
  ⟨packWord_and_op .., fun _ h => Option.some.inj h ▸ vsField_packWord ..⟩

theorem dmaon (v : VoiceSel) : Statement (.dmaon v) := fun _ =>
  ⟨packWord_and_op .., fun _ h => Option.some.inj h ▸ vsField_packWord ..⟩

theorem setbeg (v : VoiceSel) (addr : Addr) : Statement (.setbeg v addr) := fun _ =>
  ⟨packWord_and_op .., fun _ h => Option.some.inj h ▸ vsField_packWord ..⟩

theorem addbeg (v : VoiceSel) (step : BitVec 24) : Statement (.addbeg v step) := fun _ =>
  ⟨packWord_and_op .., fun _ h => Option.some.inj h ▸ vsField_packWord ..⟩

theorem setlen (v : VoiceSel) (len : Len) : Statement (.setlen v len) := fun _ =>
  ⟨packWord_and_op .., fun _ h => Option.some.inj h ▸ vsField_packWord ..⟩

theorem addlen (v : VoiceSel) (step : BitVec 24) : Statement (.addlen v step) := fun _ =>
  ⟨packWord_and_op .., fun _ h => Option.some.inj h ▸ vsField_packWord ..⟩

theorem loopwait (v : VoiceSel) (count : Byte) : Statement (.loopwait v count) := fun _ =>
  ⟨packWord_and_op .., fun _ h => Option.some.inj h ▸ vsField_packWord ..⟩

theorem addvol (v : VoiceSel) (step : Byte) : Statement (.addvol v step) := fun _ =>
  ⟨packWord_and_op .., fun _ h => Option.some.inj h ▸ vsField_packWord ..⟩

theorem setvol (v : VoiceSel) (vol : Byte) : Statement (.setvol v vol) := fun _ =>
  ⟨packWord_and_op .., fun _ h => Option.some.inj h ▸ vsField_packWord ..⟩

theorem setper (v : VoiceSel) (period : Half) : Statement (.setper v period) := fun _ =>
  ⟨packWord_and_op .., fun _ h => Option.some.inj h ▸ vsField_packWord ..⟩

theorem addper (v : VoiceSel) (step : Half) : Statement (.addper v step) := fun _ =>
  ⟨packWord_and_op .., fun _ h => Option.some.inj h ▸ vsField_packWord ..⟩

theorem porta (v : VoiceSel) (rate : Byte) (dest : Half) : Statement (.porta v rate dest) := fun _ =>
  ⟨packWord_and_op .., fun _ h => Option.some.inj h ▸ vsField_packWord ..⟩

theorem vibrato (v : VoiceSel) (period width : Byte) : Statement (.vibrato v period width) := fun _ =>
  ⟨packWord_and_op .., fun _ h => Option.some.inj h ▸ vsField_packWord ..⟩

theorem envelope (v : VoiceSel) (rate reset target : Byte) : Statement (.envelope v rate reset target) := fun _ =>
  ⟨packWord_and_op .., fun _ h => Option.some.inj h ▸ vsField_packWord ..⟩

theorem resetfx (v : VoiceSel) : Statement (.resetfx v) := fun _ =>
  ⟨packWord_and_op .., fun _ h => Option.some.inj h ▸ vsField_packWord ..⟩

theorem smploop (v : VoiceSel) (k : BitVec 24) : Statement (.smploop v k) := fun _ =>
  ⟨packWord_and_op .., fun _ h => Option.some.inj h ▸ vsField_packWord ..⟩

theorem oneshot (v : VoiceSel) : Statement (.oneshot v) := fun _ =>
  ⟨packWord_and_op .., fun _ h => Option.some.inj h ▸ vsField_packWord ..⟩

theorem dmaoff (v : VoiceSel) : Statement (.dmaoff v) := fun _ =>
  ⟨packWord_and_op .., fun _ h => Option.some.inj h ▸ vsField_packWord ..⟩

theorem oscbeg (v : VoiceSel) (n : Byte) (step : Half) : Statement (.oscbeg v n step) := fun _ =>
  ⟨packWord_and_op .., fun _ h => Option.some.inj h ▸ vsField_packWord ..⟩

theorem rdstat (v : VoiceSel) : Statement (.rdstat v) := fun _ =>
  ⟨packWord_and_op .., fun _ h => Option.some.inj h ▸ vsField_packWord ..⟩

theorem clrevt (v : VoiceSel) (loopDone stopped : Bool) : Statement (.clrevt v loopDone stopped) := fun _ =>
  ⟨packWord_and_op .., fun _ h => Option.some.inj h ▸ vsField_packWord ..⟩

theorem rdreg (v : VoiceSel) (idx : Byte) : Statement (.rdreg v idx) := fun _ =>
  ⟨packWord_and_op .., fun _ h => Option.some.inj h ▸ vsField_packWord ..⟩

end RowBits

end Sys2Proof.Laws
end

