-- ==== Sys2Proof/Laws/Render.lean ====
section
/-! SUPPORT. What a frame, a wrap and a RENDER of one voice can do, said once, and how the voices'
frames come together in the accumulators. -/

namespace Sys2Proof.Machine

/-- `y` differs from `x` at most in the registers RENDER writes (R150). -/
def Voice.RenderFrame (x y : Voice) : Prop :=
  y = { x with
    actAddr := y.actAddr, actLen := y.actLen, pos := y.pos, loopCnt := y.loopCnt
    on := y.on, committed := y.committed, loopPend := y.loopPend
    evLoopDone := y.evLoopDone, evStopped := y.evStopped }

theorem Voice.RenderFrame.refl (x : Voice) : x.RenderFrame x := rfl

theorem Voice.RenderFrame.trans {x y z : Voice} (h : x.RenderFrame y) (h' : y.RenderFrame z) :
    x.RenderFrame z := by
  unfold Voice.RenderFrame at *
  rw [h'] at *
  rw [h]

/-- Everything loop bookkeeping can do (R158). -/
theorem Voice.countLoop_cases (x : Voice) :
    (x.loopPend = false ∧ x.countLoop = x) ∨
    (x.loopPend = true ∧ x.loopCnt = 1 ∧
      x.countLoop = { x with loopCnt := 0, loopPend := false, evLoopDone := true }) ∨
    (x.loopPend = true ∧ x.loopCnt ≠ 1 ∧ x.countLoop = { x with loopCnt := x.loopCnt - 1 }) := by
  have hc : trunc 8 ((x.loopCnt.toNat : Int) - 1) = x.loopCnt - 1 := by
    rw [trunc, Int.sub_eq_add_neg, BitVec.ofInt_add, BitVec.ofInt_natCast, BitVec.ofNat_toNat,
      BitVec.setWidth_eq]
    exact congrArg (x.loopCnt + ·) (show BitVec.ofInt 8 (-1) = -(1 : Byte) by decide) |>.trans
      (BitVec.sub_eq_add_neg ..).symm
  unfold Voice.countLoop
  cases hp : x.loopPend with
  | false => exact .inl ⟨rfl, by simp⟩
  | true =>
    right
    simp only [hc, if_true]
    by_cases h : x.loopCnt = 1
    · exact .inl ⟨trivial, h, by rw [if_pos (by rw [h]; rfl), h]; rfl⟩
    · have h' : ¬ x.loopCnt - 1 = 0 := fun h' => h (by rw [← BitVec.sub_add_cancel x.loopCnt 1, h']; rfl)
      exact .inr ⟨trivial, h, by rw [if_neg h']⟩

/-- The window in position units, with the literal factor first so that no unifier unfolds it. -/
theorem Voice.window_eq (x : Voice) : x.window = 2 ^ fracBits * x.actLen.toNat := by
  rw [Voice.window, Nat.shiftLeft_eq, Nat.mul_comm]

/-- Everything a wrap can do: stop by policy, stop on a zero-length loop, or go on in the save window
(R155 to R158). -/
theorem Voice.wrap_cases (x : Voice) (extra : Nat) :
    (x.loopPolicy = .stop ∧ x.wrap extra = x.stop) ∨
    (x.loopPolicy = .cont ∧ x.saveLen = 0 ∧
      x.wrap extra = { x with actAddr := x.saveAddr, actLen := x.saveLen }.stop) ∨
    (x.loopPolicy = .cont ∧ x.saveLen ≠ 0 ∧
      x.wrap extra = { x with
        actAddr := x.saveAddr, actLen := x.saveLen
        pos := BitVec.ofNat 32
          (if 2 ^ fracBits * x.saveLen.toNat ≤ extra then 0 else extra) }.countLoop) := by
  have hw : (2 ^ fracBits * x.saveLen.toNat = 0) ↔ x.saveLen = 0 := by
    rw [Nat.mul_eq_zero, ← BitVec.toNat_inj]
    simp
  unfold Voice.wrap
  simp only [Voice.window_eq]
  cases hp : x.loopPolicy with
  | stop => exact .inl ⟨rfl, by simp⟩
  | cont =>
    right
    by_cases h : x.saveLen = 0
    · exact .inl ⟨rfl, h, by simp [h]⟩
    · refine .inr ⟨rfl, h, ?_⟩
      simp only [reduceCtorEq, if_false, hw, h]

/-- Everything an advance can do: move on inside the window, or wrap (R154). -/
theorem Voice.advance_cases (x : Voice) :
    (x.pos.toNat + x.delta.toNat < 2 ^ fracBits * x.actLen.toNat ∧
      x.advance = { x with pos := BitVec.ofNat 32 (x.pos.toNat + x.delta.toNat) }) ∨
    (2 ^ fracBits * x.actLen.toNat ≤ x.pos.toNat + x.delta.toNat ∧
      x.advance = x.wrap (x.pos.toNat + x.delta.toNat - 2 ^ fracBits * x.actLen.toNat)) := by
  unfold Voice.advance
  simp only [Voice.window_eq]
  by_cases h : x.pos.toNat + x.delta.toNat < 2 ^ fracBits * x.actLen.toNat
  · exact .inl ⟨h, by simp only [h, if_true]⟩
  · exact .inr ⟨by omega, by simp only [h, if_false]⟩

/-- Everything a commit can do (R152). -/
theorem Voice.commit_cases (x : Voice) :
    (x.saveLen = 0 ∧ x.commit =
      { x with actAddr := x.saveAddr, actLen := x.saveLen, pos := 0, committed := true }.stop) ∨
    (x.saveLen ≠ 0 ∧ x.commit =
      { x with actAddr := x.saveAddr, actLen := x.saveLen, pos := 0, committed := true }) := by
  unfold Voice.commit
  by_cases h : x.saveLen = 0
  · exact .inl ⟨h, by simp [h]⟩
  · exact .inr ⟨h, if_neg h⟩

/-- A voice that a frame leaves on is still committed. -/
theorem Voice.advance_on {x : Voice} (h : x.advance.on = true) :
    x.on = true ∧ x.advance.committed = x.committed := by
  rcases x.advance_cases with ⟨-, e⟩ | ⟨-, e⟩
  · rw [e] at h ⊢
    exact ⟨h, rfl⟩
  · rcases x.wrap_cases (x.pos.toNat + x.delta.toNat - 2 ^ fracBits * x.actLen.toNat) with
      ⟨-, e'⟩ | ⟨-, -, e'⟩ | ⟨-, -, e'⟩
    · rw [e, e'] at h
      exact absurd h (by simp)
    · rw [e, e'] at h
      exact absurd h (by simp)
    · rw [e, e'] at h ⊢
      rcases Voice.countLoop_cases { x with
          actAddr := x.saveAddr, actLen := x.saveLen
          pos := BitVec.ofNat 32 (if 2 ^ fracBits * x.saveLen.toNat ≤
            x.pos.toNat + x.delta.toNat - 2 ^ fracBits * x.actLen.toNat then 0
            else x.pos.toNat + x.delta.toNat - 2 ^ fracBits * x.actLen.toNat) } with
        ⟨-, e''⟩ | ⟨-, -, e''⟩ | ⟨-, -, e''⟩ <;> rw [e''] at h ⊢ <;> exact ⟨h, rfl⟩

/-! ## The registers RENDER leaves alone -/

theorem Voice.countLoop_frame (x : Voice) : x.RenderFrame x.countLoop := by
  rcases x.countLoop_cases with ⟨-, e⟩ | ⟨-, -, e⟩ | ⟨-, -, e⟩ <;> rw [e] <;> rfl

theorem Voice.wrap_frame (x : Voice) (extra : Nat) : x.RenderFrame (x.wrap extra) := by
  rcases x.wrap_cases extra with ⟨-, e⟩ | ⟨-, -, e⟩ | ⟨-, -, e⟩ <;> rw [e]
  · rfl
  · rfl
  · exact Voice.RenderFrame.trans (y := { x with
      actAddr := x.saveAddr, actLen := x.saveLen
      pos := BitVec.ofNat 32 (if 2 ^ fracBits * x.saveLen.toNat ≤ extra then 0 else extra) })
      rfl (Voice.countLoop_frame _)

theorem Voice.advance_frame (x : Voice) : x.RenderFrame x.advance := by
  rcases x.advance_cases with ⟨-, e⟩ | ⟨-, e⟩ <;> rw [e]
  · rfl
  · exact x.wrap_frame _

theorem Voice.commit_frame (x : Voice) : x.RenderFrame x.commit := by
  rcases x.commit_cases with ⟨-, e⟩ | ⟨-, e⟩ <;> rw [e] <;> rfl

theorem Voice.frames_frame (p : Params) (m : Memory) (g : Byte) (n : Nat) (x : Voice) :
    x.RenderFrame (x.frames p m g n).1 := by
  induction n generalizing x with
  | zero => rfl
  | succ n ih =>
    unfold Voice.frames
    split
    · exact x.advance_frame.trans (ih _)
    · rfl

theorem Voice.render_frame (p : Params) (m : Memory) (g : Byte) (n : Nat) (x : Voice) :
    x.RenderFrame (x.render p m g n).1 := by
  unfold Voice.render
  split
  · exact x.commit_frame.trans (Voice.frames_frame ..)
  · exact Voice.frames_frame ..

/-! ## Frames -/

theorem Voice.frames_off {p : Params} {m : Memory} {g : Byte} (n : Nat) {x : Voice}
    (h : x.on = false) : x.frames p m g n = (x, List.replicate n 0) := by
  cases n <;> simp [Voice.frames, h]

theorem Voice.frames_succ {p : Params} {m : Memory} {g : Byte} (n : Nat) {x : Voice}
    (h : x.on = true) : x.frames p m g (n + 1) =
      ((x.advance.frames p m g n).1, x.mix p m g :: (x.advance.frames p m g n).2) := by
  simp [Voice.frames, h]

@[simp] theorem Voice.frames_length (p : Params) (m : Memory) (g : Byte) (n : Nat) (x : Voice) :
    (x.frames p m g n).2.length = n := by
  induction n generalizing x with
  | zero => rfl
  | succ n ih => unfold Voice.frames; split <;> simp [ih]

@[simp] theorem Voice.render_length (p : Params) (m : Memory) (g : Byte) (n : Nat) (x : Voice) :
    (x.render p m g n).2.length = n := by
  unfold Voice.render
  split <;> simp

/-- Frames come in any two parts (R159, one voice). -/
theorem Voice.frames_add (p : Params) (m : Memory) (g : Byte) (a b : Nat) (x : Voice) :
    x.frames p m g (a + b) =
      (((x.frames p m g a).1.frames p m g b).1,
        (x.frames p m g a).2 ++ ((x.frames p m g a).1.frames p m g b).2) := by
  induction a generalizing x with
  | zero => simp [Voice.frames]
  | succ a ih =>
    cases h : x.on with
    | false => simp [Voice.frames_off _ h, List.replicate_add]
    | true => rw [Nat.add_right_comm, Voice.frames_succ _ h, Voice.frames_succ _ h, ih]; simp

/-- One frame of a running voice: it advances once, and adds one sample. -/
theorem Voice.render_one {p : Params} {m : Memory} {g : Byte} {x : Voice} (h : x.on = true)
    (hc : x.committed = true) : x.render p m g 1 = (x.advance, [x.mix p m g]) := by
  rw [Voice.render, if_neg (by simp [hc]), Voice.frames_succ _ h]
  simp only [Voice.frames]

/-- A fact of a voice that commit and advance keep, RENDER keeps. -/
theorem Voice.render_keeps {P : Voice → Prop} (hc : ∀ x, P x → P x.commit)
    (ha : ∀ x, x.on = true → P x → P x.advance) (p : Params) (m : Memory) (g : Byte) (n : Nat)
    {x : Voice} (h : P x) : P (x.render p m g n).1 := by
  have hf : ∀ (n : Nat) (x : Voice), P x → P (x.frames p m g n).1 := by
    intro n
    induction n with
    | zero => exact fun x h => h
    | succ n ih =>
      intro x h
      cases ho : x.on with
      | false => rw [Voice.frames_off _ ho]; exact h
      | true => rw [Voice.frames_succ _ ho]; exact ih _ (ha x ho h)
  unfold Voice.render
  split
  · exact hf n _ (hc x h)
  · exact hf n _ h

/-! ## All voices -/

theorem renderVoices_voices (p : Params) (m : Memory) (g : Byte) (n k : Nat) (xs : List Voice)
    (acc : List (List Int)) :
    (renderVoices p m g n k xs acc).1 = xs.map fun x => (x.render p m g n).1 := by
  induction xs generalizing k acc with
  | nil => rfl
  | cons x xs ih => simp [renderVoices, ih]

theorem renderVoices_channels (p : Params) (m : Memory) (g : Byte) (n k : Nat) (xs : List Voice)
    (acc : List (List Int)) : (renderVoices p m g n k xs acc).2.length = acc.length := by
  induction xs generalizing k acc with
  | nil => rfl
  | cons x xs ih => simp [renderVoices, ih]

/-- Channel `c` after all voices: its accumulators plus the frames of the voices routed to it (R153). -/
theorem renderVoices_row (p : Params) (m : Memory) (g : Byte) (n k : Nat) (xs : List Voice)
    (acc : List (List Int)) (c : Nat) :
    (renderVoices p m g n k xs acc).2[c]? = (acc[c]?).map fun row =>
      ((xs.zipIdx k).filter fun xv => p.routeOf xv.2 = c).foldl
        (fun r xv => addFrames (xv.1.render p m g n).2 r) row := by
  induction xs generalizing k acc with
  | nil => simp [renderVoices]
  | cons x xs ih =>
    rw [renderVoices, ih, List.zipIdx_cons, List.getElem?_modify]
    by_cases h : p.routeOf k = c
    · cases acc[c]? <;> simp [h]
    · cases acc[c]? <;> simp [h]

@[simp] theorem addFrames_length (row acc : List Int) :
    (addFrames row acc).length = min acc.length row.length := by simp [addFrames]

end Sys2Proof.Machine
end

