-- ==== Sys2Proof/Laws/Tick.lean ====
section
/-! SUPPORT. What each stage of TICK can write, said once per stage and per field it leaves alone, and
what a stage does when its effect is idle. -/

namespace Sys2Proof.Machine

/-! The vibrato stage writes VIB_OFFSET, CUR_PERIOD, VIB_PHASE and VIB_WIDTH (R132). Every other field is as before. -/

theorem Voice.vibratoStage_frame (x : Voice) : x.vibratoStage =
    { x with vibOffset := (x.vibratoStage).vibOffset, curPeriod := (x.vibratoStage).curPeriod, vibPhase := (x.vibratoStage).vibPhase, vibWidth := (x.vibratoStage).vibWidth } := by
  unfold Voice.vibratoStage
  split
  · rfl
  · rfl

@[simp] theorem Voice.vibratoStage_destPeriod (x : Voice) : (x.vibratoStage).destPeriod = x.destPeriod := by
  rw [Voice.vibratoStage_frame]
@[simp] theorem Voice.vibratoStage_portaRate (x : Voice) : (x.vibratoStage).portaRate = x.portaRate := by
  rw [Voice.vibratoStage_frame]
@[simp] theorem Voice.vibratoStage_vibPeriod (x : Voice) : (x.vibratoStage).vibPeriod = x.vibPeriod := by
  rw [Voice.vibratoStage_frame]
@[simp] theorem Voice.vibratoStage_envRate (x : Voice) : (x.vibratoStage).envRate = x.envRate := by
  rw [Voice.vibratoStage_frame]
@[simp] theorem Voice.vibratoStage_envReset (x : Voice) : (x.vibratoStage).envReset = x.envReset := by
  rw [Voice.vibratoStage_frame]
@[simp] theorem Voice.vibratoStage_envCount (x : Voice) : (x.vibratoStage).envCount = x.envCount := by
  rw [Voice.vibratoStage_frame]
@[simp] theorem Voice.vibratoStage_envTarget (x : Voice) : (x.vibratoStage).envTarget = x.envTarget := by
  rw [Voice.vibratoStage_frame]
@[simp] theorem Voice.vibratoStage_curVol (x : Voice) : (x.vibratoStage).curVol = x.curVol := by
  rw [Voice.vibratoStage_frame]
@[simp] theorem Voice.vibratoStage_curAddr (x : Voice) : (x.vibratoStage).curAddr = x.curAddr := by
  rw [Voice.vibratoStage_frame]
@[simp] theorem Voice.vibratoStage_curLen (x : Voice) : (x.vibratoStage).curLen = x.curLen := by
  rw [Voice.vibratoStage_frame]
@[simp] theorem Voice.vibratoStage_saveAddr (x : Voice) : (x.vibratoStage).saveAddr = x.saveAddr := by
  rw [Voice.vibratoStage_frame]
@[simp] theorem Voice.vibratoStage_saveLen (x : Voice) : (x.vibratoStage).saveLen = x.saveLen := by
  rw [Voice.vibratoStage_frame]
@[simp] theorem Voice.vibratoStage_aboDelta (x : Voice) : (x.vibratoStage).aboDelta = x.aboDelta := by
  rw [Voice.vibratoStage_frame]
@[simp] theorem Voice.vibratoStage_aboReset (x : Voice) : (x.vibratoStage).aboReset = x.aboReset := by
  rw [Voice.vibratoStage_frame]
@[simp] theorem Voice.vibratoStage_aboCount (x : Voice) : (x.vibratoStage).aboCount = x.aboCount := by
  rw [Voice.vibratoStage_frame]
@[simp] theorem Voice.vibratoStage_actAddr (x : Voice) : (x.vibratoStage).actAddr = x.actAddr := by
  rw [Voice.vibratoStage_frame]
@[simp] theorem Voice.vibratoStage_actLen (x : Voice) : (x.vibratoStage).actLen = x.actLen := by
  rw [Voice.vibratoStage_frame]
@[simp] theorem Voice.vibratoStage_pos (x : Voice) : (x.vibratoStage).pos = x.pos := by
  rw [Voice.vibratoStage_frame]
@[simp] theorem Voice.vibratoStage_delta (x : Voice) : (x.vibratoStage).delta = x.delta := by
  rw [Voice.vibratoStage_frame]
@[simp] theorem Voice.vibratoStage_hwVol (x : Voice) : (x.vibratoStage).hwVol = x.hwVol := by
  rw [Voice.vibratoStage_frame]
@[simp] theorem Voice.vibratoStage_loopCnt (x : Voice) : (x.vibratoStage).loopCnt = x.loopCnt := by
  rw [Voice.vibratoStage_frame]
@[simp] theorem Voice.vibratoStage_on (x : Voice) : (x.vibratoStage).on = x.on := by
  rw [Voice.vibratoStage_frame]
@[simp] theorem Voice.vibratoStage_committed (x : Voice) : (x.vibratoStage).committed = x.committed := by
  rw [Voice.vibratoStage_frame]
@[simp] theorem Voice.vibratoStage_loopPend (x : Voice) : (x.vibratoStage).loopPend = x.loopPend := by
  rw [Voice.vibratoStage_frame]
@[simp] theorem Voice.vibratoStage_loopPolicy (x : Voice) : (x.vibratoStage).loopPolicy = x.loopPolicy := by
  rw [Voice.vibratoStage_frame]
@[simp] theorem Voice.vibratoStage_evLoopDone (x : Voice) : (x.vibratoStage).evLoopDone = x.evLoopDone := by
  rw [Voice.vibratoStage_frame]
@[simp] theorem Voice.vibratoStage_evStopped (x : Voice) : (x.vibratoStage).evStopped = x.evStopped := by
  rw [Voice.vibratoStage_frame]

/-! The portamento stage writes CUR_PERIOD and PORTA_RATE (R134). Every other field is as before. -/

theorem Voice.portaStage_frame (x : Voice) : x.portaStage =
    { x with curPeriod := (x.portaStage).curPeriod, portaRate := (x.portaStage).portaRate } := by
  unfold Voice.portaStage
  split
  · rfl
  · rfl

@[simp] theorem Voice.portaStage_destPeriod (x : Voice) : (x.portaStage).destPeriod = x.destPeriod := by
  rw [Voice.portaStage_frame]
@[simp] theorem Voice.portaStage_vibPeriod (x : Voice) : (x.portaStage).vibPeriod = x.vibPeriod := by
  rw [Voice.portaStage_frame]
@[simp] theorem Voice.portaStage_vibPhase (x : Voice) : (x.portaStage).vibPhase = x.vibPhase := by
  rw [Voice.portaStage_frame]
@[simp] theorem Voice.portaStage_vibWidth (x : Voice) : (x.portaStage).vibWidth = x.vibWidth := by
  rw [Voice.portaStage_frame]
@[simp] theorem Voice.portaStage_vibOffset (x : Voice) : (x.portaStage).vibOffset = x.vibOffset := by
  rw [Voice.portaStage_frame]
@[simp] theorem Voice.portaStage_envRate (x : Voice) : (x.portaStage).envRate = x.envRate := by
  rw [Voice.portaStage_frame]
@[simp] theorem Voice.portaStage_envReset (x : Voice) : (x.portaStage).envReset = x.envReset := by
  rw [Voice.portaStage_frame]
@[simp] theorem Voice.portaStage_envCount (x : Voice) : (x.portaStage).envCount = x.envCount := by
  rw [Voice.portaStage_frame]
@[simp] theorem Voice.portaStage_envTarget (x : Voice) : (x.portaStage).envTarget = x.envTarget := by
  rw [Voice.portaStage_frame]
@[simp] theorem Voice.portaStage_curVol (x : Voice) : (x.portaStage).curVol = x.curVol := by
  rw [Voice.portaStage_frame]
@[simp] theorem Voice.portaStage_curAddr (x : Voice) : (x.portaStage).curAddr = x.curAddr := by
  rw [Voice.portaStage_frame]
@[simp] theorem Voice.portaStage_curLen (x : Voice) : (x.portaStage).curLen = x.curLen := by
  rw [Voice.portaStage_frame]
@[simp] theorem Voice.portaStage_saveAddr (x : Voice) : (x.portaStage).saveAddr = x.saveAddr := by
  rw [Voice.portaStage_frame]
@[simp] theorem Voice.portaStage_saveLen (x : Voice) : (x.portaStage).saveLen = x.saveLen := by
  rw [Voice.portaStage_frame]
@[simp] theorem Voice.portaStage_aboDelta (x : Voice) : (x.portaStage).aboDelta = x.aboDelta := by
  rw [Voice.portaStage_frame]
@[simp] theorem Voice.portaStage_aboReset (x : Voice) : (x.portaStage).aboReset = x.aboReset := by
  rw [Voice.portaStage_frame]
@[simp] theorem Voice.portaStage_aboCount (x : Voice) : (x.portaStage).aboCount = x.aboCount := by
  rw [Voice.portaStage_frame]
@[simp] theorem Voice.portaStage_actAddr (x : Voice) : (x.portaStage).actAddr = x.actAddr := by
  rw [Voice.portaStage_frame]
@[simp] theorem Voice.portaStage_actLen (x : Voice) : (x.portaStage).actLen = x.actLen := by
  rw [Voice.portaStage_frame]
@[simp] theorem Voice.portaStage_pos (x : Voice) : (x.portaStage).pos = x.pos := by
  rw [Voice.portaStage_frame]
@[simp] theorem Voice.portaStage_delta (x : Voice) : (x.portaStage).delta = x.delta := by
  rw [Voice.portaStage_frame]
@[simp] theorem Voice.portaStage_hwVol (x : Voice) : (x.portaStage).hwVol = x.hwVol := by
  rw [Voice.portaStage_frame]
@[simp] theorem Voice.portaStage_loopCnt (x : Voice) : (x.portaStage).loopCnt = x.loopCnt := by
  rw [Voice.portaStage_frame]
@[simp] theorem Voice.portaStage_on (x : Voice) : (x.portaStage).on = x.on := by
  rw [Voice.portaStage_frame]
@[simp] theorem Voice.portaStage_committed (x : Voice) : (x.portaStage).committed = x.committed := by
  rw [Voice.portaStage_frame]
@[simp] theorem Voice.portaStage_loopPend (x : Voice) : (x.portaStage).loopPend = x.loopPend := by
  rw [Voice.portaStage_frame]
@[simp] theorem Voice.portaStage_loopPolicy (x : Voice) : (x.portaStage).loopPolicy = x.loopPolicy := by
  rw [Voice.portaStage_frame]
@[simp] theorem Voice.portaStage_evLoopDone (x : Voice) : (x.portaStage).evLoopDone = x.evLoopDone := by
  rw [Voice.portaStage_frame]
@[simp] theorem Voice.portaStage_evStopped (x : Voice) : (x.portaStage).evStopped = x.evStopped := by
  rw [Voice.portaStage_frame]

/-! The envelope stage writes CUR_VOL, ENV_RATE and ENV_COUNT (R136). Every other field is as before. -/

theorem Voice.envStage_frame (x : Voice) : x.envStage =
    { x with curVol := (x.envStage).curVol, envRate := (x.envStage).envRate, envCount := (x.envStage).envCount } := by
  unfold Voice.envStage
  split
  · rfl
  · dsimp only
    split <;> rfl

@[simp] theorem Voice.envStage_curPeriod (x : Voice) : (x.envStage).curPeriod = x.curPeriod := by
  rw [Voice.envStage_frame]
@[simp] theorem Voice.envStage_destPeriod (x : Voice) : (x.envStage).destPeriod = x.destPeriod := by
  rw [Voice.envStage_frame]
@[simp] theorem Voice.envStage_portaRate (x : Voice) : (x.envStage).portaRate = x.portaRate := by
  rw [Voice.envStage_frame]
@[simp] theorem Voice.envStage_vibPeriod (x : Voice) : (x.envStage).vibPeriod = x.vibPeriod := by
  rw [Voice.envStage_frame]
@[simp] theorem Voice.envStage_vibPhase (x : Voice) : (x.envStage).vibPhase = x.vibPhase := by
  rw [Voice.envStage_frame]
@[simp] theorem Voice.envStage_vibWidth (x : Voice) : (x.envStage).vibWidth = x.vibWidth := by
  rw [Voice.envStage_frame]
@[simp] theorem Voice.envStage_vibOffset (x : Voice) : (x.envStage).vibOffset = x.vibOffset := by
  rw [Voice.envStage_frame]
@[simp] theorem Voice.envStage_envReset (x : Voice) : (x.envStage).envReset = x.envReset := by
  rw [Voice.envStage_frame]
@[simp] theorem Voice.envStage_envTarget (x : Voice) : (x.envStage).envTarget = x.envTarget := by
  rw [Voice.envStage_frame]
@[simp] theorem Voice.envStage_curAddr (x : Voice) : (x.envStage).curAddr = x.curAddr := by
  rw [Voice.envStage_frame]
@[simp] theorem Voice.envStage_curLen (x : Voice) : (x.envStage).curLen = x.curLen := by
  rw [Voice.envStage_frame]
@[simp] theorem Voice.envStage_saveAddr (x : Voice) : (x.envStage).saveAddr = x.saveAddr := by
  rw [Voice.envStage_frame]
@[simp] theorem Voice.envStage_saveLen (x : Voice) : (x.envStage).saveLen = x.saveLen := by
  rw [Voice.envStage_frame]
@[simp] theorem Voice.envStage_aboDelta (x : Voice) : (x.envStage).aboDelta = x.aboDelta := by
  rw [Voice.envStage_frame]
@[simp] theorem Voice.envStage_aboReset (x : Voice) : (x.envStage).aboReset = x.aboReset := by
  rw [Voice.envStage_frame]
@[simp] theorem Voice.envStage_aboCount (x : Voice) : (x.envStage).aboCount = x.aboCount := by
  rw [Voice.envStage_frame]
@[simp] theorem Voice.envStage_actAddr (x : Voice) : (x.envStage).actAddr = x.actAddr := by
  rw [Voice.envStage_frame]
@[simp] theorem Voice.envStage_actLen (x : Voice) : (x.envStage).actLen = x.actLen := by
  rw [Voice.envStage_frame]
@[simp] theorem Voice.envStage_pos (x : Voice) : (x.envStage).pos = x.pos := by
  rw [Voice.envStage_frame]
@[simp] theorem Voice.envStage_delta (x : Voice) : (x.envStage).delta = x.delta := by
  rw [Voice.envStage_frame]
@[simp] theorem Voice.envStage_hwVol (x : Voice) : (x.envStage).hwVol = x.hwVol := by
  rw [Voice.envStage_frame]
@[simp] theorem Voice.envStage_loopCnt (x : Voice) : (x.envStage).loopCnt = x.loopCnt := by
  rw [Voice.envStage_frame]
@[simp] theorem Voice.envStage_on (x : Voice) : (x.envStage).on = x.on := by
  rw [Voice.envStage_frame]
@[simp] theorem Voice.envStage_committed (x : Voice) : (x.envStage).committed = x.committed := by
  rw [Voice.envStage_frame]
@[simp] theorem Voice.envStage_loopPend (x : Voice) : (x.envStage).loopPend = x.loopPend := by
  rw [Voice.envStage_frame]
@[simp] theorem Voice.envStage_loopPolicy (x : Voice) : (x.envStage).loopPolicy = x.loopPolicy := by
  rw [Voice.envStage_frame]
@[simp] theorem Voice.envStage_evLoopDone (x : Voice) : (x.envStage).evLoopDone = x.evLoopDone := by
  rw [Voice.envStage_frame]
@[simp] theorem Voice.envStage_evStopped (x : Voice) : (x.envStage).evStopped = x.evStopped := by
  rw [Voice.envStage_frame]

/-! The add-begin stage writes CUR_ADDR, SAVE_ADDR, ABO_DELTA and ABO_COUNT (R137). Every other field is as before. -/

theorem Voice.aboStage_frame (b : Bool) (x : Voice) : x.aboStage b =
    { x with curAddr := (x.aboStage b).curAddr, saveAddr := (x.aboStage b).saveAddr, aboDelta := (x.aboStage b).aboDelta, aboCount := (x.aboStage b).aboCount } := by
  unfold Voice.aboStage
  split
  · rfl
  · dsimp only
    split <;> rfl

@[simp] theorem Voice.aboStage_curPeriod (b : Bool) (x : Voice) : (x.aboStage b).curPeriod = x.curPeriod := by
  rw [Voice.aboStage_frame]
@[simp] theorem Voice.aboStage_destPeriod (b : Bool) (x : Voice) : (x.aboStage b).destPeriod = x.destPeriod := by
  rw [Voice.aboStage_frame]
@[simp] theorem Voice.aboStage_portaRate (b : Bool) (x : Voice) : (x.aboStage b).portaRate = x.portaRate := by
  rw [Voice.aboStage_frame]
@[simp] theorem Voice.aboStage_vibPeriod (b : Bool) (x : Voice) : (x.aboStage b).vibPeriod = x.vibPeriod := by
  rw [Voice.aboStage_frame]
@[simp] theorem Voice.aboStage_vibPhase (b : Bool) (x : Voice) : (x.aboStage b).vibPhase = x.vibPhase := by
  rw [Voice.aboStage_frame]
@[simp] theorem Voice.aboStage_vibWidth (b : Bool) (x : Voice) : (x.aboStage b).vibWidth = x.vibWidth := by
  rw [Voice.aboStage_frame]
@[simp] theorem Voice.aboStage_vibOffset (b : Bool) (x : Voice) : (x.aboStage b).vibOffset = x.vibOffset := by
  rw [Voice.aboStage_frame]
@[simp] theorem Voice.aboStage_envRate (b : Bool) (x : Voice) : (x.aboStage b).envRate = x.envRate := by
  rw [Voice.aboStage_frame]
@[simp] theorem Voice.aboStage_envReset (b : Bool) (x : Voice) : (x.aboStage b).envReset = x.envReset := by
  rw [Voice.aboStage_frame]
@[simp] theorem Voice.aboStage_envCount (b : Bool) (x : Voice) : (x.aboStage b).envCount = x.envCount := by
  rw [Voice.aboStage_frame]
@[simp] theorem Voice.aboStage_envTarget (b : Bool) (x : Voice) : (x.aboStage b).envTarget = x.envTarget := by
  rw [Voice.aboStage_frame]
@[simp] theorem Voice.aboStage_curVol (b : Bool) (x : Voice) : (x.aboStage b).curVol = x.curVol := by
  rw [Voice.aboStage_frame]
@[simp] theorem Voice.aboStage_curLen (b : Bool) (x : Voice) : (x.aboStage b).curLen = x.curLen := by
  rw [Voice.aboStage_frame]
@[simp] theorem Voice.aboStage_saveLen (b : Bool) (x : Voice) : (x.aboStage b).saveLen = x.saveLen := by
  rw [Voice.aboStage_frame]
@[simp] theorem Voice.aboStage_aboReset (b : Bool) (x : Voice) : (x.aboStage b).aboReset = x.aboReset := by
  rw [Voice.aboStage_frame]
@[simp] theorem Voice.aboStage_actAddr (b : Bool) (x : Voice) : (x.aboStage b).actAddr = x.actAddr := by
  rw [Voice.aboStage_frame]
@[simp] theorem Voice.aboStage_actLen (b : Bool) (x : Voice) : (x.aboStage b).actLen = x.actLen := by
  rw [Voice.aboStage_frame]
@[simp] theorem Voice.aboStage_pos (b : Bool) (x : Voice) : (x.aboStage b).pos = x.pos := by
  rw [Voice.aboStage_frame]
@[simp] theorem Voice.aboStage_delta (b : Bool) (x : Voice) : (x.aboStage b).delta = x.delta := by
  rw [Voice.aboStage_frame]
@[simp] theorem Voice.aboStage_hwVol (b : Bool) (x : Voice) : (x.aboStage b).hwVol = x.hwVol := by
  rw [Voice.aboStage_frame]
@[simp] theorem Voice.aboStage_loopCnt (b : Bool) (x : Voice) : (x.aboStage b).loopCnt = x.loopCnt := by
  rw [Voice.aboStage_frame]
@[simp] theorem Voice.aboStage_on (b : Bool) (x : Voice) : (x.aboStage b).on = x.on := by
  rw [Voice.aboStage_frame]
@[simp] theorem Voice.aboStage_committed (b : Bool) (x : Voice) : (x.aboStage b).committed = x.committed := by
  rw [Voice.aboStage_frame]
@[simp] theorem Voice.aboStage_loopPend (b : Bool) (x : Voice) : (x.aboStage b).loopPend = x.loopPend := by
  rw [Voice.aboStage_frame]
@[simp] theorem Voice.aboStage_loopPolicy (b : Bool) (x : Voice) : (x.aboStage b).loopPolicy = x.loopPolicy := by
  rw [Voice.aboStage_frame]
@[simp] theorem Voice.aboStage_evLoopDone (b : Bool) (x : Voice) : (x.aboStage b).evLoopDone = x.evLoopDone := by
  rw [Voice.aboStage_frame]
@[simp] theorem Voice.aboStage_evStopped (b : Bool) (x : Voice) : (x.aboStage b).evStopped = x.evStopped := by
  rw [Voice.aboStage_frame]

/-! Stages 1 to 4 together write the registers of R130 alone. -/

@[simp] theorem Voice.effects_destPeriod (b : Bool) (x : Voice) : (x.effects b).destPeriod = x.destPeriod := by
  simp [Voice.effects]
@[simp] theorem Voice.effects_vibPeriod (b : Bool) (x : Voice) : (x.effects b).vibPeriod = x.vibPeriod := by
  simp [Voice.effects]
@[simp] theorem Voice.effects_envReset (b : Bool) (x : Voice) : (x.effects b).envReset = x.envReset := by
  simp [Voice.effects]
@[simp] theorem Voice.effects_envTarget (b : Bool) (x : Voice) : (x.effects b).envTarget = x.envTarget := by
  simp [Voice.effects]
@[simp] theorem Voice.effects_curLen (b : Bool) (x : Voice) : (x.effects b).curLen = x.curLen := by
  simp [Voice.effects]
@[simp] theorem Voice.effects_saveLen (b : Bool) (x : Voice) : (x.effects b).saveLen = x.saveLen := by
  simp [Voice.effects]
@[simp] theorem Voice.effects_aboReset (b : Bool) (x : Voice) : (x.effects b).aboReset = x.aboReset := by
  simp [Voice.effects]
@[simp] theorem Voice.effects_actAddr (b : Bool) (x : Voice) : (x.effects b).actAddr = x.actAddr := by
  simp [Voice.effects]
@[simp] theorem Voice.effects_actLen (b : Bool) (x : Voice) : (x.effects b).actLen = x.actLen := by
  simp [Voice.effects]
@[simp] theorem Voice.effects_pos (b : Bool) (x : Voice) : (x.effects b).pos = x.pos := by
  simp [Voice.effects]
@[simp] theorem Voice.effects_delta (b : Bool) (x : Voice) : (x.effects b).delta = x.delta := by
  simp [Voice.effects]
@[simp] theorem Voice.effects_hwVol (b : Bool) (x : Voice) : (x.effects b).hwVol = x.hwVol := by
  simp [Voice.effects]
@[simp] theorem Voice.effects_loopCnt (b : Bool) (x : Voice) : (x.effects b).loopCnt = x.loopCnt := by
  simp [Voice.effects]
@[simp] theorem Voice.effects_on (b : Bool) (x : Voice) : (x.effects b).on = x.on := by
  simp [Voice.effects]
@[simp] theorem Voice.effects_committed (b : Bool) (x : Voice) : (x.effects b).committed = x.committed := by
  simp [Voice.effects]
@[simp] theorem Voice.effects_loopPend (b : Bool) (x : Voice) : (x.effects b).loopPend = x.loopPend := by
  simp [Voice.effects]
@[simp] theorem Voice.effects_loopPolicy (b : Bool) (x : Voice) : (x.effects b).loopPolicy = x.loopPolicy := by
  simp [Voice.effects]
@[simp] theorem Voice.effects_evLoopDone (b : Bool) (x : Voice) : (x.effects b).evLoopDone = x.evLoopDone := by
  simp [Voice.effects]
@[simp] theorem Voice.effects_evStopped (b : Bool) (x : Voice) : (x.effects b).evStopped = x.evStopped := by
  simp [Voice.effects]

/-! A stage whose effect is not armed changes nothing (R142). -/

theorem Voice.vibratoStage_idle {x : Voice} (h : x.vibPeriod = 0) : x.vibratoStage = x := if_pos h

theorem Voice.portaStage_idle {x : Voice} (h : x.portaRate = 0) : x.portaStage = x := if_pos h

theorem Voice.envStage_idle {x : Voice} (h : x.envRate = 0) : x.envStage = x := if_pos h

theorem Voice.aboStage_idle {b : Bool} {x : Voice} (h : x.aboReset = 0 ∨ b = true) :
    x.aboStage b = x := if_pos h

theorem Globals.fadeStage_idle {g : Globals} (h : g.fadeSlope = 0) : g.fadeStage = g := if_pos h

theorem Voice.effects_idle {b : Bool} {x : Voice} (hv : x.vibPeriod = 0) (hp : x.portaRate = 0)
    (he : x.envRate = 0) (ha : x.aboReset = 0) : x.effects b = x := by
  rw [Voice.effects, vibratoStage_idle hv, portaStage_idle hp, envStage_idle he,
    aboStage_idle (.inl ha)]

/-! The fade writes MASTER_VOL, FADE_SLOPE and FADE_COUNT (R139). -/

theorem Globals.fadeStage_frame (g : Globals) : g.fadeStage =
    { g with
      masterVol := g.fadeStage.masterVol, fadeSlope := g.fadeStage.fadeSlope
      fadeCount := g.fadeStage.fadeCount } := by
  unfold Globals.fadeStage
  split
  · rfl
  · dsimp only
    split
    · split <;> rfl
    · rfl

@[simp] theorem Globals.fadeStage_fadeTarget (g : Globals) : g.fadeStage.fadeTarget = g.fadeTarget := by
  rw [Globals.fadeStage_frame]

@[simp] theorem Globals.fadeStage_fadeReset (g : Globals) : g.fadeStage.fadeReset = g.fadeReset := by
  rw [Globals.fadeStage_frame]

@[simp] theorem Globals.fadeStage_noAddBeg (g : Globals) : g.fadeStage.noAddBeg = g.noAddBeg := by
  rw [Globals.fadeStage_frame]

/-! ## The steps of the ramps -/

/-- The portamento's step never leaves the range between the period and its destination (R134, R135). -/
theorem portaStep_between (c d r : Nat) :
    min c d ≤ (portaStep c d r).1 ∧ (portaStep c d r).1 ≤ max c d := by
  have h : c * (256 - r) / 256 ≤ c :=
    Nat.div_le_of_le_mul (by rw [Nat.mul_comm 256]; exact Nat.mul_le_mul_left c (Nat.sub_le 256 r))
  have h' : c ≤ c * (256 + r) / 256 := by
    rw [Nat.le_div_iff_mul_le (by decide)]
    exact Nat.mul_le_mul_left c (Nat.le_add_right 256 r)
  simp only [portaStep, Nat.shiftRight_eq_div_pow, Nat.reducePow]
  split
  · split <;> omega
  · split
    · split
      · split <;> omega
      · split <;> omega
    · omega

/-- The envelope's step stays between the volume and its target (R136). -/
theorem envStep_between (cv t r : Nat) :
    (min cv t : Nat) ≤ (envStep cv t r).1 ∧ (envStep cv t r).1 ≤ (max cv t : Nat) := by
  simp only [envStep]
  split
  · split <;> omega
  · split
    · split <;> omega
    · omega

end Sys2Proof.Machine
end

