-- ==== Sys2Proof/Laws/Step.lean ====
section
/-! SUPPORT. The step in terms of exec. -/

namespace Sys2Proof.Machine

theorem step_of_port {s : State} {w : Word} {rest : List Word} (h : s.port = w :: rest) :
    step s = exec (decode w) { s with port := rest } := by
  simp [step, State.takeWord, h]

theorem step_idle {s : State} (h : s.port = []) : step s = .next s := by
  simp [step, State.takeWord, h]

/-- The word `withFetchWord` puts on the port is the one the next step executes. -/
theorem step_withFetchWord (s : State) (nbits w : Nat) :
    step (s.withFetchWord nbits w) = exec (decode (tableWord nbits w)) s := step_of_port rfl

/-- Everything a voice-class command can do: rewrite its voice, or read it (R80). -/
theorem exec_voice_cases {i : Instr} {v : VoiceSel} (s : State) (h : i.voice? = some v) :
    (∃ f, exec i s = onVoice v f s) ∨ ∃ f, exec i s = readVoice v f s := by
  cases i <;> simp only [Instr.voice?, Option.some.injEq, reduceCtorEq] at h <;> subst h <;>
    first
      | exact .inr ⟨_, rfl⟩
      | exact .inl ⟨_, rfl⟩

/-- Everything RENDER can do to the state: nothing for 0 frames, else the voices rendered and OUT
written. -/
theorem execRender_cases (n : BitVec 24) (s : State) :
    (n = 0 ∧ execRender n s = .next { s with response := 0, out := [] }) ∨
    (n ≠ 0 ∧ execRender n s = .next { s with
      voices := s.voices.map fun x => (x.render s.params s.smpl s.glob.masterVol n.toNat).1
      response := 0
      out := (renderVoices s.params s.smpl s.glob.masterVol n.toNat 0 s.voices
        (zeroAccumulators s.nvoices n.toNat)).2.map fun row =>
          row.map (narrow s.params.pcmBits) }) := by
  unfold execRender
  by_cases h : n = 0
  · exact .inl ⟨h, by simp [h, doNothing, State.respond]⟩
  · exact .inr ⟨h, by simp only [h, if_false, renderVoices_voices]⟩

end Sys2Proof.Machine
end

