-- ==== Sys2Proof/Tests/Slice0.lean ====
section
/-! SUPPORT. Tests. Expected values are the spec's (95_test_vectors.md, with the vector's name in each
docstring, or the encoding tables of 30_encoding.md). Then, for every statement with hypotheses, a
witness that meets them. -/

namespace Sys2Proof.Tests

open Sys2Proof Sys2Proof.Machine

/-! ## Well-formedness -/

/-- Voice 7 is the global class, so no voice-class command names it (R61). -/
theorem test_wellformed_voice_range :
    (Instr.dmaon 6).WellFormed ∧ ¬ (Instr.dmaon 7).WellFormed ∧ ¬ (Instr.rdreg 7 0).WellFormed := by
  decide

/-! ## Decoding: one word per constructor, from the table of 95_test_vectors.md section 2 -/

theorem test_decode_dmaoffr : decode 0x00000000#32 = .dmaoffr 0 := by decide
theorem test_decode_dmaon : decode 0x21000000#32 = .dmaon 1 := by decide
theorem test_decode_setbeg : decode 0x02000100#32 = .setbeg 0 0x000100#24 := by decide
theorem test_decode_addbeg : decode 0x03FFFFF0#32 = .addbeg 0 (-16#24) := by decide
theorem test_decode_setlen : decode 0x04000004#32 = .setlen 0 4#18 := by decide
theorem test_decode_addlen : decode 0x05FFFFFC#32 = .addlen 0 (-4#24) := by decide
theorem test_decode_loopwait : decode 0x06000002#32 = .loopwait 0 2#8 := by decide
theorem test_decode_addvol : decode 0x270000FD#32 = .addvol 1 (-3#8) := by decide
theorem test_decode_setvol : decode 0x08000040#32 = .setvol 0 64#8 := by decide
theorem test_decode_setper : decode 0x490001AC#32 = .setper 2 428#16 := by decide
theorem test_decode_addper : decode 0x0A00FFE4#32 = .addper 0 (-28#16) := by decide
theorem test_decode_porta : decode 0x0B1001AC#32 = .porta 0 16#8 428#16 := by decide
theorem test_decode_vibrato : decode 0x0C0100F0#32 = .vibrato 0 1#8 (-16#8) := by decide
theorem test_decode_envelope : decode 0x6D0A0214#32 = .envelope 3 10#8 2#8 20#8 := by decide
theorem test_decode_resetfx : decode 0x0E000000#32 = .resetfx 0 := by decide
theorem test_decode_smploop : decode 0x0F000006#32 = .smploop 0 6#24 := by decide
theorem test_decode_oneshot : decode 0x10000000#32 = .oneshot 0 := by decide
theorem test_decode_dmaoff : decode 0x51000000#32 = .dmaoff 2 := by decide
theorem test_decode_oscbeg : decode 0x12018000#32 = .oscbeg 0 1#8 (-32768#16) := by decide
theorem test_decode_rdstat : decode 0x53000000#32 = .rdstat 2 := by decide
theorem test_decode_clrevt : decode 0x14000020#32 = .clrevt 0 false true := by decide
theorem test_decode_rdreg : decode 0x35000016#32 = .rdreg 1 22#8 := by decide
theorem test_decode_nop : decode 0xE0000000#32 = .nop := by decide
theorem test_decode_setmvol : decode 0xE1000040#32 = .setmvol 64#8 := by decide
theorem test_decode_fade : decode 0xE202003C#32 = .fade 2#8 60#8 := by decide
theorem test_decode_tick : decode 0xE3000000#32 = .tick := by decide
theorem test_decode_render : decode 0xE4000006#32 = .render 6#24 := by decide
theorem test_decode_rdglob : decode 0xE5000006#32 = .rdglob 6#8 := by decide
theorem test_decode_reset : decode 0xE6000000#32 = .reset := by decide
theorem test_decode_setcfg : decode 0xE7000001#32 = .setcfg true := by decide

/-- Reserved words are NOP (decode vectors of section 2). -/
theorem test_decode_reserved : decode 0x16000000#32 = .nop ∧ decode 0x1F000001#32 = .nop ∧
    decode 0xE8000000#32 = .nop ∧ decode 0xFF123456#32 = .nop := by decide

/-- Ignored operand bits (decode vectors of section 2). -/
theorem test_decode_ignored_bits : decode 0x04040004#32 = .setlen 0 4#18 ∧
    decode 0x0CFF7F03#32 = .vibrato 0 255#8 3#8 ∧ decode 0xE7FFFFFE#32 = .setcfg false := by decide

/-- L1-e: `ENVELOPE 3, 10, 2, 20` is the bytes 6D 0A 02 14. -/
theorem test_decode_bytes : decodeBytes [0x6D#8, 0x0A#8, 0x02#8, 0x14#8, 0xE0#8] =
    .ok (.envelope 3 10#8 2#8 20#8, [0xE0#8]) ∧ decodeBytes [0x6D#8, 0x0A#8, 0x02#8] = .error .truncated ∧
    decodeTableWord 32 0x6D0A0214 = some (.envelope 3 10#8 2#8 20#8) := ⟨rfl, rfl, by decide⟩

/-! ## One step -/

/-- CFG-T with the image S16 (95_test_vectors.md, Conventions), right after power-on. -/
def base : State :=
  State.powerOn { Params.default 4 with clockHz := 3528000, smplSize := 16 } 4
    (Memory.load [] 0 [0x00, 0x10, 0x20, 0x30, 0x40, 0x50, 0x60, 0x70, 0x7F, 0x80, 0xFF, 0xC0, 1, 2, 3, 4])

/-- `base` with other voices 0, 1, 2, 3. -/
def withVoices (a b c d : Voice) : State := { base with voices := [a, b, c, d] }

/-- `base` with another voice 0. -/
def withVoice (x : Voice) : State := withVoices x .reset .reset .reset

/-- `base` with other globals. -/
def withGlob (g : Globals) : State := { base with glob := g }

/-- The state after one step that takes the word `w` from the port. -/
def after (w : Nat) (s : State) : Option State :=
  match step (s.withFetchWord 32 w) with
  | .next t => some t
  | _ => none

/-- Voice 0 after one step that takes the word `w` from the port. -/
def voiceAfter (w : Nat) (x : Voice) : Option Voice := (after w (withVoice x)).bind fun t => t.voices[0]?

/-- The response to `w`. -/
def answer (w : Nat) (s : State) : Option Word := (after w s).map State.response

/-- A voice that runs in the window (`a`, `n`) at position `p` with delta `d`, full volume. -/
def running (a : Addr) (n : Len) (p d : Word) : Voice :=
  { Voice.reset with
    on := true, committed := true, actAddr := a, actLen := n, pos := p, delta := d, hwVol := 64
    saveAddr := a, saveLen := n, curAddr := a, curLen := n }

/-- L1-a: DMAOFFR silences the voice and takes the vibrato's offset off the period. -/
theorem test_dmaoffr : voiceAfter 0x00000000
    { running 4 4 32768 16384 with destPeriod := 80, curPeriod := 82, vibPeriod := 4, vibWidth := 3 } =
    some { running 4 4 32768 16384 with
      destPeriod := 80, curPeriod := 80, on := false, committed := false } := by decide

/-- W9, W10: DMAON makes the voice pending and clears the policy. -/
theorem test_dmaon : voiceAfter 0x01000000 { Voice.reset with loopPolicy := .stop } =
    some { Voice.reset with on := true } := by decide

/-- W7: SETBEG cancels the add-begin oscillator. -/
theorem test_setbeg : voiceAfter 0x02002000
    { Voice.reset with curAddr := 0x1000, saveAddr := 0x1000, aboDelta := 16, aboReset := 2, aboCount := 2 } =
    some { Voice.reset with curAddr := 0x2000, saveAddr := 0x2000 } := by decide

/-- W1: ADDBEG wraps at 24 bits. -/
theorem test_addbeg_wraps : voiceAfter 0x03FFFFFF Voice.reset =
    some { Voice.reset with curAddr := 0xFFFFFF, saveAddr := 0xFFFFFF } := by decide

/-- W6: ADDBEG under NOADDBEG is NOP. -/
theorem test_addbeg_disabled : after 0x03000010 (withGlob { Globals.reset with noAddBeg := true }) =
    some (withGlob { Globals.reset with noAddBeg := true }) := by decide

/-- W3: SETLEN ignores bits 23:18. -/
theorem test_setlen : voiceAfter 0x04040004 Voice.reset =
    some { Voice.reset with curLen := 4, saveLen := 4 } := by decide

/-- W2: ADDLEN wraps at 18 bits. -/
theorem test_addlen_wraps : voiceAfter 0x05FFFFFD { Voice.reset with curLen := 2, saveLen := 2 } =
    some { Voice.reset with curLen := 0x3FFFF, saveLen := 0x3FFFF } := by decide

/-- W8: LOOPWAIT 0 completes at once. -/
theorem test_loopwait_zero : voiceAfter 0x06000000 Voice.reset =
    some { Voice.reset with evLoopDone := true } := by decide

/-- P2: LOOPWAIT 2 arms the wait. -/
theorem test_loopwait_arms : voiceAfter 0x06000002 Voice.reset =
    some { Voice.reset with loopPend := true, loopCnt := 2 } := by decide

/-- Q1, Q2: ADDVOL wraps at 8 bits both ways. -/
theorem test_addvol_wraps :
    voiceAfter 0x070000FD { Voice.reset with curVol := 2 } = some { Voice.reset with curVol := 255 } ∧
    voiceAfter 0x0700000A { Voice.reset with curVol := 250 } = some { Voice.reset with curVol := 4 } := by
  decide

/-- M5: SETVOL stores a volume above 64. -/
theorem test_setvol : voiceAfter 0x080000C8 Voice.reset = some { Voice.reset with curVol := 200 } := by
  decide

/-- Q5: SETPER does not touch DELTA. -/
theorem test_setper : voiceAfter 0x090001AC Voice.reset =
    some { Voice.reset with curPeriod := 428, destPeriod := 428 } := by decide

/-- Q3, Q4: ADDPER adds to DEST_PERIOD. -/
theorem test_addper :
    voiceAfter 0x0A00FFFD { Voice.reset with destPeriod := 2, curPeriod := 7 } =
      some { Voice.reset with destPeriod := 65535, curPeriod := 65535 } ∧
    voiceAfter 0x0A00FFE4 { Voice.reset with destPeriod := 428, curPeriod := 430 } =
      some { Voice.reset with destPeriod := 400, curPeriod := 400 } := by decide

/-- L1-c: PORTA loads the rate and the destination and leaves CUR_PERIOD. -/
theorem test_porta : voiceAfter 0x0B1001AC { Voice.reset with curPeriod := 856, destPeriod := 856 } =
    some { Voice.reset with curPeriod := 856, destPeriod := 428, portaRate := 16 } := by decide

/-- T2: VIBRATO with the odd period 3 loads VIB_PHASE 1. -/
theorem test_vibrato : voiceAfter 0x0C030002 { Voice.reset with vibOffset := 9 } =
    some { Voice.reset with vibPeriod := 3, vibPhase := 1, vibWidth := 2 } := by decide

/-- T8: ENVELOPE 10, 2, 20. -/
theorem test_envelope : voiceAfter 0x0D0A0214 { Voice.reset with curVol := 64 } =
    some { Voice.reset with curVol := 64, envRate := 10, envReset := 2, envCount := 2, envTarget := 20 } := by
  decide

/-- T11: RESETFX leaves the integrals and puts the period back. -/
theorem test_resetfx : voiceAfter 0x0E000000
    { Voice.reset with
      curPeriod := 430, destPeriod := 428, curVol := 41, curAddr := 4, saveAddr := 4
      vibPeriod := 8, vibPhase := 2, vibWidth := 5, vibOffset := 10
      envRate := 1, envReset := 1, envCount := 1, envTarget := 64
      aboDelta := -4, aboReset := 1, aboCount := 1, portaRate := 3 } =
    some { Voice.reset with
      curPeriod := 428, destPeriod := 428, curVol := 41, curAddr := 4, saveAddr := 4 } := by decide

/-- W4, W5: SMPLOOP shrinks the window in place, at most to nothing. -/
theorem test_smploop :
    voiceAfter 0x0F000006 { Voice.reset with saveLen := 8, curLen := 8 } =
      some { Voice.reset with saveAddr := 6, curAddr := 6, saveLen := 2, curLen := 2 } ∧
    voiceAfter 0x0F000009 { Voice.reset with saveLen := 8, curLen := 8 } =
      some { Voice.reset with saveAddr := 8, curAddr := 8 } := by decide

/-- W10: ONESHOT after DMAON, RDSTAT is 0x009. -/
theorem test_oneshot : voiceAfter 0x10000000 { Voice.reset with on := true } =
    some { Voice.reset with on := true, loopPolicy := .stop } := by decide

/-- M10 with DMAOFF: POS and ACT_LEN stay. -/
theorem test_dmaoff : voiceAfter 0x11000000
    { running 4 4 32768 16384 with loopPend := true, loopCnt := 3 } =
    some { running 4 4 32768 16384 with on := false, committed := false } := by decide

/-- T9: OSCBEG 3, 16. -/
theorem test_oscbeg : voiceAfter 0x12030010 Voice.reset =
    some { Voice.reset with aboDelta := 16, aboReset := 3, aboCount := 3 } := by decide

/-- W6: OSCBEG under NOADDBEG is NOP. -/
theorem test_oscbeg_disabled : after 0x12030010 (withGlob { Globals.reset with noAddBeg := true }) =
    some (withGlob { Globals.reset with noAddBeg := true }) := by decide

/-- P2 and T11: RDSTAT of a running voice whose wait is done, and of a voice with three effects armed. -/
theorem test_rdstat :
    answer 0x13000000 (withVoice { running 8 2 0 16384 with evLoopDone := true }) = some 0x013#32 ∧
    answer 0x13000000 (withVoice
      { Voice.reset with vibPeriod := 4, envRate := 1, aboReset := 1 }) = some 0xD00#32 := by decide

/-- X7: a voice the instance has not. -/
theorem test_rdstat_absent : answer 0xB3000000 base = some 0 := by decide

/-- P1: CLREVT 0x20 turns the status 0x028 into 0x008. -/
theorem test_clrevt : voiceAfter 0x14000020
    { Voice.reset with loopPolicy := .stop, evStopped := true } =
    some { Voice.reset with loopPolicy := .stop } := by decide

/-- X1: a signed register is sign-extended. -/
theorem test_rdreg_signed :
    answer 0x15000005 (withVoice { Voice.reset with vibWidth := -3 }) = some 0xFFFFFFFD#32 := by decide

/-- X2 and P2: no register from index 25 on; ACT_ADDR is index 19. -/
theorem test_rdreg_index : answer 0x15000019 (withVoice (running 8 2 0 0)) = some 0 ∧
    answer 0x150000FF (withVoice (running 8 2 0 0)) = some 0 ∧
    answer 0x15000013 (withVoice (running 8 2 0 0)) = some 8 := by decide

/-- NOP (R170). -/
theorem test_nop : after 0xE0000000 { base with response := 5 } = some base := by decide

/-- T10: SETMVOL cancels the fade and leaves FADE_TARGET and FADE_RESET. -/
theorem test_setmvol : (after 0xE1000032 (withGlob
      { Globals.reset with masterVol := 63, fadeSlope := -1, fadeReset := 3, fadeCount := 2 })).map State.glob =
    some { Globals.reset with masterVol := 50, fadeReset := 3 } := by decide

/-- T10: `FADE 2, 60` from 64, and `FADE 1, 13` from 10. -/
theorem test_fade_ramp :
    (after 0xE202003C base).map State.glob =
      some { Globals.reset with fadeSlope := -1, fadeTarget := 60, fadeReset := 2, fadeCount := 2 } ∧
    (after 0xE201000D (withGlob { Globals.reset with masterVol := 10 })).map State.glob =
      some { Globals.reset with
        masterVol := 10, fadeSlope := 1, fadeTarget := 13, fadeReset := 1, fadeCount := 1 } := by decide

/-- T10: `FADE 0, 20` jumps, and `FADE 5, 50` at 50 is idle. -/
theorem test_fade_jump :
    (after 0xE2000014 base).map State.glob =
      some { Globals.reset with masterVol := 20, fadeTarget := 20 } ∧
    (after 0xE2050032 (withGlob { Globals.reset with masterVol := 50, fadeReset := 3 })).map State.glob =
      some { Globals.reset with masterVol := 50, fadeTarget := 50 } := by decide

/-- One tick of T1 (the second, with the flip), L1-c (the eleventh, the arrival), T8 (the second) and T9
(the third), with T10 (the second). -/
theorem test_tick_fires : after 0xE3000000 { withVoices
      { Voice.reset with
        destPeriod := 428, curPeriod := 428, vibPeriod := 4, vibPhase := 1, vibWidth := 3, vibOffset := 3 }
      { Voice.reset with curPeriod := 446, destPeriod := 428, portaRate := 16 }
      { Voice.reset with curVol := 64, envRate := 10, envReset := 2, envCount := 1, envTarget := 20 }
      { Voice.reset with curAddr := 0x1000, saveAddr := 0x1000, aboDelta := 16, aboReset := 3, aboCount := 1 }
      with glob := { Globals.reset with
        fadeSlope := -1, fadeTarget := 60, fadeReset := 2, fadeCount := 1 } } =
    some { withVoices
      { Voice.reset with
        destPeriod := 428, curPeriod := 429, vibPeriod := 4, vibPhase := 4, vibWidth := -3, vibOffset := 6
        delta := 3055 }
      { Voice.reset with curPeriod := 428, destPeriod := 428, delta := 3062 }
      { Voice.reset with
        curVol := 54, envRate := 10, envReset := 2, envCount := 2, envTarget := 20, hwVol := 54 }
      { Voice.reset with
        curAddr := 0x1010, saveAddr := 0x1010, aboDelta := -16, aboReset := 3, aboCount := 3 }
      with glob := { Globals.reset with
        masterVol := 63, fadeSlope := -1, fadeTarget := 60, fadeReset := 2, fadeCount := 2 } } := by decide

/-- T5 (the saturation of the eleventh tick), T7 (the forced step), T8 (an arrival below 0) and T9 (a
delta that is its own negation). -/
theorem test_tick_corners : (after 0xE3000000 (withVoices
      { Voice.reset with
        destPeriod := 40000, curPeriod := 64804, vibPeriod := 200, vibPhase := 90, vibWidth := 127
        vibOffset := 1270 }
      { Voice.reset with curPeriod := 200, destPeriod := 203, portaRate := 1 }
      { Voice.reset with curVol := 5, envRate := 200, envReset := 1, envCount := 1, envTarget := 0 }
      { Voice.reset with
        curAddr := 0x10000, saveAddr := 0x10000, aboDelta := -32768, aboReset := 1, aboCount := 1 })).map
      (fun t => t.voices.map fun x => [x.curPeriod.toNat, x.portaRate.toNat, x.curVol.toNat,
        x.envRate.toNat, x.curAddr.toNat, x.aboDelta.toNat]) =
    some [[65535, 0, 0, 0, 0, 0], [201, 1, 0, 0, 0, 0], [0, 0, 0, 0, 0, 0],
      [0, 0, 0, 0, 0x8000, 0x8000]] := by decide

/-- M1, M8 (the snap), M4 (outside the memory) and P1 (the one-shot stop), two frames each. -/
theorem test_render_running : (after 0xE4000002 (withVoices (running 0 4 16384 16384) (running 4 2 0 65536)
      (running 14 4 16384 16384) { running 4 4 49152 16384 with loopPolicy := .stop })).map
      (fun t => (t.out, t.voices.map fun x => (x.pos, x.actLen, x.status))) =
    some ([[4096, 8192], [16384, 16384], [1024, 0], [28672, 0]],
      [(49152, 4, 0x003#32), (0, 2, 0x003#32), (49152, 4, 0x003#32), (0, 0, 0x028#32)]) := by decide

/-- M9 (a zero length stops at the commit), M23 (the commit takes the save pair), P2 (the awaited wrap)
and M14 (the floor of a negative sum, at master volume 1). -/
theorem test_render_commits_and_wraps : (after 0xE4000001 { withVoices
      { Voice.reset with on := true }
      { running 0 4 49152 16384 with committed := false, saveAddr := 4, saveLen := 4 }
      { running 0 4 49152 16384 with saveAddr := 8, saveLen := 2, loopPend := true, loopCnt := 1 }
      { running 10 2 0 16384 with hwVol := 1 }
      with glob := { Globals.reset with masterVol := 1 } }).map
      (fun t => (t.out, t.voices.map fun x => (x.actAddr, x.pos, x.status))) =
    some ([[0], [256], [192], [-1]],
      [(0, 0, 0x020#32), (4, 16384, 0x003#32), (8, 0, 0x013#32), (10, 16384, 0x003#32)]) := by decide

/-- X2, X3, X6. -/
theorem test_rdglob : answer 0xE5000000 base = some 64 ∧ answer 0xE5000006 base = some 4 ∧
    answer 0xE5000007 base = some 0 ∧
    answer 0xE5000001 (withGlob { Globals.reset with fadeSlope := -1 }) = some 0xFFFFFFFF#32 := by decide

/-- X5: RESET puts every register back, CFG included. -/
theorem test_reset : after 0xE6000000 { withVoice { running 0 4 0 16384 with evStopped := true } with
    glob := { Globals.reset with masterVol := 10, noAddBeg := true }, response := 7, out := [[1]] } =
    some base := by decide

/-- X4, W6: SETCFG uses bit 0 alone. -/
theorem test_setcfg : after 0xE70000FE (withGlob { Globals.reset with noAddBeg := true }) = some base ∧
    after 0xE7000001 base = some (withGlob { Globals.reset with noAddBeg := true }) := by decide

/-- The decode vector `SETVOL 4, 64`: NOP with four voices, a volume with seven. -/
theorem test_voice_four : after 0x88000040 base = some base ∧
    ((after 0x88000040 (State.powerOn (Params.default 7) 7 [])).bind fun t =>
      t.voices[4]?.map Voice.curVol) = some 64 := by decide

/-- The image S16 reads back (Conventions of 95_test_vectors.md), and 0 where nothing is listed. -/
theorem test_memory_image : base.smpl.wf = true ∧ base.smpl.read 9 = 0x80 ∧ base.smpl.read 0 = 0 ∧
    base.smpl.read 16 = 0 := by decide

/-! ## Witnesses: states and operands that meet the hypotheses of the statements -/

/-- DecodeOfEncodeIsIdentity, StepExecutesTheWordOnThePort: a well-formed command of each class, on the
highest voice the encoding names. -/
theorem witness_wellformed : (Instr.setcfg true).WellFormed ∧ (Instr.oscbeg 6 1 2).WellFormed := by decide

/-- IgnoredBitsDoNotMatter: SETLEN's bits 23:18 differ. -/
theorem witness_ignored_bits : (0x04000004#32 : Word) &&& usedBits 0x04000004#32 =
    0x04FC0004#32 &&& usedBits 0x04000004#32 ∧ (0x04000004#32 : Word) ≠ 0x04FC0004#32 := by decide

/-- ReservedWordsExecuteAsNop: the first reserved `op` of each class, and the first absent voice. -/
theorem witness_reserved_words :
    ((base.withFetchWord 32 0x16000000).port = 0x16000000#32 :: [] ∧
      (0x16000000#32).toNat / 2 ^ 29 ≠ 7 ∧ 22 ≤ (0x16000000#32).toNat / 2 ^ 24 % 32) ∧
    ((base.withFetchWord 32 0xE8000000).port = 0xE8000000#32 :: [] ∧
      (0xE8000000#32).toNat / 2 ^ 29 = 7 ∧ 8 ≤ (0xE8000000#32).toNat / 2 ^ 24 % 32) ∧
    (base.withFetchWord 32 0x88000040).port = 0x88000040#32 :: [] ∧
      (0x88000040#32).toNat / 2 ^ 29 ≠ 7 ∧ base.nvoices ≤ (0x88000040#32).toNat / 2 ^ 29 := by decide

/-- CommandBytesAreBigEndian: three bytes. StepExecutesTheWordOnThePort: a word on the port, a command's
word on the port, and an idle port. -/
theorem witness_port : [0x6D#8, 0x0A#8, 0x02#8].length < 4 ∧
    (base.withFetchWord 32 0xE3000000).port = encode .tick :: [] ∧ base.port = [] := by decide

/-- AbsentVoiceMakesCommandNop, at the first absent voice. -/
theorem witness_absent_voice : (Instr.setvol 4 64).voice? = some 4 ∧ base.nvoices ≤ (4 : VoiceSel).toNat := by
  decide

/-- Every statement about a voice-class command on a voice the instance has: the first and the last voice
of four, and the last of seven; the voice number is not 7. DmaOff, ResetFx, DmaOn, SetBeg, SetLen,
SmpLoop, SetVol, SetPer, EffectStarts, RdStat, ClrEvt, RdReg. -/
theorem witness_present_voice : base.voices[(0 : VoiceSel).toNat]? = some Voice.reset ∧
    base.voices[(3 : VoiceSel).toNat]? = some Voice.reset ∧ (3 : VoiceSel) ≠ 7 ∧
    (State.powerOn (Params.default 7) 7 []).voices[(6 : VoiceSel).toNat]? = some Voice.reset ∧
    (6 : VoiceSel) ≠ 7 := by decide

/-- AddBegWrapsAndObeysNoAddBeg and OscBegLoadsOscillatorOrObeysNoAddBeg: both values of NOADDBEG. -/
theorem witness_noaddbeg : base.glob.noAddBeg = false ∧ base.voices[(3 : VoiceSel).toNat]? = some Voice.reset ∧
    (withGlob { Globals.reset with noAddBeg := true }).glob.noAddBeg = true ∧
    (withGlob { Globals.reset with noAddBeg := true }).voices[(3 : VoiceSel).toNat]? = some Voice.reset := by
  decide

/-- LoopWaitArmsOrCompletes: the counts 0, 1 and 255. -/
theorem witness_loopwait : base.voices[(0 : VoiceSel).toNat]? = some Voice.reset ∧
    (0 : Byte) = 0 ∧ (1 : Byte) ≠ 0 ∧ (255 : Byte) ≠ 0 := by decide

/-- FadeJumpsOrLoadsRamp at MASTER_VOL 64: speed 0; the target 64; the targets one below and above. -/
theorem witness_fade : ((0 : Byte) = 0 ∨ base.glob.masterVol = 20) ∧
    ((1 : Byte) = 0 ∨ base.glob.masterVol = 64) ∧
    ((1 : Byte) ≠ 0 ∧ (63 : Byte).toNat < base.glob.masterVol.toNat) ∧
    (1 : Byte) ≠ 0 ∧ base.glob.masterVol.toNat < (65 : Byte).toNat := by decide

/-- VibratoStageStepsTheTriangle: idle; armed with portamento armed or not; the countdown at 0, 1, 2. -/
theorem witness_vibrato_stage : Voice.reset.vibPeriod = 0 ∧
    (∀ x ∈ [{ Voice.reset with vibPeriod := 1 }, { Voice.reset with vibPeriod := 1, vibPhase := 1 }],
      x.vibPeriod ≠ 0 ∧ x.portaRate = 0 ∧ x.vibPhase.toNat ≤ 1) ∧
    ∀ x ∈ [{ Voice.reset with vibPeriod := 4, vibPhase := 2, portaRate := 1 }],
      x.vibPeriod ≠ 0 ∧ x.portaRate ≠ 0 ∧ 1 < x.vibPhase.toNat := by decide

/-- A voice that slides from the period `c` toward `d` at rate `r`. -/
def sliding (c d : Half) (r : Byte) : Voice :=
  { Voice.reset with curPeriod := c, destPeriod := d, portaRate := r }

/-- PortamentoStageMultipliesTowardDestination: idle; the arrivals of T7 and L1-c (at the destination,
past it from above, past it from below, onto it by the forced 1); a step down and one up that is none. -/
theorem witness_porta_stage : Voice.reset.portaRate.toNat = 0 ∧
    (∀ x ∈ [sliding 500 500 9, sliding 446 428 16, sliding 769 856 32, sliding 202 203 1],
      x.portaRate.toNat ≠ 0 ∧ (x.curPeriod.toNat = x.destPeriod.toNat ∨
        (x.destPeriod.toNat < x.curPeriod.toNat ∧
          x.curPeriod.toNat * (256 - x.portaRate.toNat) / 256 ≤ x.destPeriod.toNat) ∨
        (x.curPeriod.toNat < x.destPeriod.toNat ∧ x.destPeriod.toNat ≤
          max (x.curPeriod.toNat * (256 + x.portaRate.toNat) / 256) (x.curPeriod.toNat + 1)))) ∧
    (∀ x ∈ [sliding 856 428 16], x.portaRate.toNat ≠ 0 ∧ x.destPeriod.toNat < x.curPeriod.toNat ∧
      x.destPeriod.toNat < x.curPeriod.toNat * (256 - x.portaRate.toNat) / 256) ∧
    ∀ x ∈ [sliding 428 856 32], x.portaRate.toNat ≠ 0 ∧ x.curPeriod.toNat < x.destPeriod.toNat ∧
      max (x.curPeriod.toNat * (256 + x.portaRate.toNat) / 256) (x.curPeriod.toNat + 1) <
        x.destPeriod.toNat := by decide

/-- A voice whose envelope goes from the volume `c` to 30 in steps of 10, with the countdown at `n`. -/
def ramping (c n : Byte) : Voice :=
  { Voice.reset with curVol := c, envRate := 10, envReset := 2, envCount := n, envTarget := 30 }

/-- EnvelopeStageRampsLinearly: idle; waiting; firing with the target exactly one step away on each side
(an arrival) and one unit further (none). -/
theorem witness_env_stage : Voice.reset.envRate.toNat = 0 ∧
    ((ramping 64 2).envRate.toNat ≠ 0 ∧ 1 < (ramping 64 2).envCount.toNat) ∧
    (∀ x ∈ [ramping 40 1, ramping 20 0], x.envRate.toNat ≠ 0 ∧ x.envCount.toNat ≤ 1 ∧
      x.curVol.toNat ≤ x.envTarget.toNat + x.envRate.toNat ∧
      x.envTarget.toNat ≤ x.curVol.toNat + x.envRate.toNat) ∧
    (∀ x ∈ [ramping 41 1], x.envRate.toNat ≠ 0 ∧ x.envCount.toNat ≤ 1 ∧
      x.envTarget.toNat + x.envRate.toNat < x.curVol.toNat) ∧
    ∀ x ∈ [ramping 19 1], x.envRate.toNat ≠ 0 ∧ x.envCount.toNat ≤ 1 ∧
      x.curVol.toNat + x.envRate.toNat < x.envTarget.toNat := by decide

/-- AddBeginStageAddsAndNegatesWhenFired: idle, switched off, waiting, firing at 1 and at 0. -/
theorem witness_abo_stage : (Voice.reset.aboReset = 0 ∨ false = true) ∧
    (({ Voice.reset with aboReset := 1 }).aboReset = 0 ∨ true = true) ∧
    (∀ x ∈ [{ Voice.reset with aboReset := 2, aboCount := 2 }], x.aboReset ≠ 0 ∧ 1 < x.aboCount.toNat) ∧
    ∀ x ∈ [{ Voice.reset with aboReset := 2, aboCount := 1 }, { Voice.reset with aboReset := 1 }],
      x.aboReset ≠ 0 ∧ x.aboCount.toNat ≤ 1 := by decide

/-- A fade from the volume `m` to 60 with slope `d` and the countdown at `n`. -/
def fading (m d n : Byte) : Globals :=
  { Globals.reset with masterVol := m, fadeSlope := d, fadeTarget := 60, fadeReset := 2, fadeCount := n }

/-- FadeStageStepsMasterVolume: idle, waiting, firing one unit from the target on each side, and firing
two units from it. -/
theorem witness_fade_stage : Globals.reset.fadeSlope = 0 ∧
    ((fading 64 (-1) 2).fadeSlope ≠ 0 ∧ 1 < (fading 64 (-1) 2).fadeCount.toNat) ∧
    (∀ g ∈ [fading 61 (-1) 1, fading 59 1 0], g.fadeSlope ≠ 0 ∧ g.fadeCount.toNat ≤ 1 ∧
      g.masterVol + g.fadeSlope = g.fadeTarget) ∧
    ∀ g ∈ [fading 62 (-1) 1, fading 58 1 0], g.fadeSlope ≠ 0 ∧ g.fadeCount.toNat ≤ 1 ∧
      g.masterVol + g.fadeSlope ≠ g.fadeTarget := by decide

/-- The default parameters are legal for both instances (R4, R5). -/
theorem default_legal : (Params.default 4).Legal 4 ∧ (Params.default 7).Legal 7 :=
  ⟨⟨.inl rfl, by decide, by decide, by decide, by decide, by decide, by decide, by decide⟩,
    ⟨.inr rfl, by decide, by decide, by decide, by decide, by decide, by decide, by decide⟩⟩

/-- LatchTransfersPitchAndVolume: legal parameters, with the periods 0 and 1. -/
theorem witness_latch : (Params.default 4).Legal 4 ∧ Voice.reset.curPeriod.toNat = 0 ∧
    ({ Voice.reset with curPeriod := 1 }).curPeriod.toNat ≠ 0 := ⟨default_legal.1, by decide⟩

/-- TickWithNothingArmedIsIdempotent: a playing voice, its pitch latched (CFG-T: period 80, delta 16384)
and not latched. -/
theorem witness_idle_tick :
    (∀ x ∈ (withVoice { running 0 4 0 16384 with curPeriod := 80, curVol := 64 }).voices,
      (x.vibPeriod = 0 ∧ x.portaRate = 0 ∧ x.envRate = 0 ∧ x.aboReset = 0) ∧
      x.hwVol = x.curVol ∧ x.delta = BitVec.ofNat 32 (periodToDelta base.params x.curPeriod.toNat)) ∧
    (withVoice { running 0 4 0 16384 with curPeriod := 80, curVol := 64 }).glob.fadeSlope = 0 ∧
    (∀ x ∈ (withVoice { running 0 4 0 16384 with curPeriod := 40 }).voices,
      x.vibPeriod = 0 ∧ x.portaRate = 0 ∧ x.envRate = 0 ∧ x.aboReset = 0) := by decide

/-- PortamentoConvergesWithoutOvershoot: downward (L1-c, whose 11 ticks meet both bounds), upward, and
from the destination itself. -/
theorem witness_portamento :
    (∀ x ∈ [sliding 856 428 16, sliding 0 3 255, sliding 500 500 9],
      (withVoice x).voices[(0 : VoiceSel).toNat]? = some x ∧ x.portaRate ≠ 0) ∧
    ((sliding 856 428 16).destPeriod.toNat < (sliding 856 428 16).curPeriod.toNat ∧
      856 * (256 - 16) ^ 11 ≤ 428 * 256 ^ 11 ∧ descend 16 11 856 ≤ 428) ∧
    (sliding 0 3 255).curPeriod.toNat < (sliding 0 3 255).destPeriod.toNat ∧
    (sliding 500 500 9).curPeriod.toNat = (sliding 500 500 9).destPeriod.toNat := by decide

/-- VibratoOffsetIsTheTriangleTable: the extreme periods and widths it covers. -/
theorem witness_triangle : base.voices[(0 : VoiceSel).toNat]? = some Voice.reset ∧ (1 : Byte) ≠ 0 ∧
    (255 : Byte) ≠ 0 ∧ (-127 : Byte).toInt ≠ -128 ∧ (127 : Byte).toInt ≠ -128 := by decide

/-- AddBeginOscillatorAlternatesEveryPeriod: the periods 1 and 255, the least delta it alternates by; 3
ticks of period 3 have fired. -/
theorem witness_oscillator : base.voices[(0 : VoiceSel).toNat]? = some Voice.reset ∧
    base.glob.noAddBeg = false ∧ (1 : Byte) ≠ 0 ∧ (255 : Byte) ≠ 0 ∧ (-32767 : Half).toInt ≠ -32768 ∧
    (3 : Byte).toNat ≤ 3 := by decide

/-- FadeMeetsItsTargetExactly: slowest and fastest, one unit down and all the way up from 64. -/
theorem witness_fade_run : (1 : Byte) ≠ 0 ∧ (255 : Byte) ≠ 0 ∧ base.glob.masterVol ≠ 63 ∧
    base.glob.masterVol ≠ 255 := by decide

/-- RenderWritesNarrowedSums and RenderSplitsAtAnyFrame: the least and the greatest frame counts. -/
theorem witness_frame_counts : (1 : BitVec 24) ≠ 0 ∧ (0xFFFFFF : BitVec 24) ≠ 0 ∧
    (0xFFFFFE : BitVec 24).toNat + (1 : BitVec 24).toNat < 2 ^ 24 ∧ (0 : Nat) < base.nvoices ∧
    (3 : Nat) < base.nvoices := by decide

/-- OffVoiceIsSilentAndPendingVoiceCommits: off; pending with no length; pending with length 1. -/
theorem witness_commit : Voice.reset.on = false ∧
    (({ Voice.reset with on := true }).on = true ∧ ({ Voice.reset with on := true }).committed = false ∧
      ({ Voice.reset with on := true }).saveLen = 0) ∧
    ({ Voice.reset with on := true, saveLen := 1 }).saveLen ≠ 0 := by decide

/-- RunningVoiceRendersOneFrame, clause by clause: one position short of the window's end, exactly at it
with policy STOP, with a save window of 0, of 1, and awaiting 1 and 2 loops. -/
theorem witness_running_voice :
    ((running 0 4 49151 16384).pos.toNat + (running 0 4 49151 16384).delta.toNat <
      2 ^ 14 * (running 0 4 49151 16384).actLen.toNat) ∧
    ∀ x ∈ [{ running 0 4 49152 16384 with loopPolicy := .stop }, { running 0 4 49152 16384 with saveLen := 0 },
        { running 0 4 49152 16384 with saveLen := 1 },
        { running 0 4 49152 16384 with loopPend := true, loopCnt := 1 },
        { running 0 4 49152 16384 with loopPend := true, loopCnt := 2 }],
      x.on = true ∧ x.committed = true ∧ (x.loopPend = true → x.loopCnt ≠ 0) ∧
      2 ^ 14 * x.actLen.toNat ≤ x.pos.toNat + x.delta.toNat := by decide

/-- AccumulatorsFitAndNarrowToPcm: a legal instance whose RENDER of one frame has an accumulator row, and
both ends of PCM_BITS. -/
theorem witness_accumulators : base.params.Legal base.nvoices ∧
    ([65536] : List Int) ∈ (renderVoices base.params base.smpl 64 1 0 [running 1 1 0 0]
      (zeroAccumulators 1 1)).2 ∧ (65536 : Int) ∈ ([65536] : List Int) ∧
    8 ≤ 8 ∧ 8 ≤ 20 ∧ 20 ≤ 20 :=
  ⟨⟨.inl rfl, by decide, by decide, by decide, by decide, by decide, by decide, by decide⟩, by decide⟩

/-- The frame statements (VoiceCommandsTouchOnlyTheirVoice, MemoryAndParametersNeverChange,
MixerRegistersChangeOnlyInTickAndRender, RenderChangesNoMacroRegister, GlobalsChangeOnlyByTheirCommands):
commands of each kind they name answer a next state. -/
theorem witness_frames : (∃ t, exec (.setvol 3 64) base = .next t) ∧ (Instr.setvol 3 64).voice? = some 3 ∧
    (1 ≠ (3 : VoiceSel).toNat) ∧ (∃ t, exec .tick base = .next t) ∧ Instr.tick ≠ .reset ∧
    (∃ t, exec (.render 1) (withVoice (running 0 4 0 16384)) = .next t ∧
      t.voices[0]? = some (running 0 4 16384 16384)) ∧ (∃ t, step base = .next t) :=
  ⟨⟨_, rfl⟩, rfl, by decide, ⟨_, rfl⟩, by decide, ⟨_, rfl, by decide⟩, ⟨_, rfl⟩⟩

/-- EventsAreSticky: both events set before a TICK, neither CLREVT nor RESET, RENDER nor LOOPWAIT. -/
theorem witness_events :
    ∃ s t x y, exec .tick s = .next t ∧ s.voices[0]? = some x ∧ t.voices[0]? = some y ∧
      (∀ v l e, Instr.tick ≠ .clrevt v l e) ∧ Instr.tick ≠ .reset ∧ (∀ n, Instr.tick ≠ .render n) ∧
      (∀ v, Instr.tick ≠ .loopwait v 0) ∧ x.evLoopDone = true ∧ x.evStopped = true ∧
      y.evLoopDone = true ∧ y.evStopped = true :=
  ⟨withVoice { Voice.reset with evLoopDone := true, evStopped := true }, _, _, _, rfl, rfl, rfl,
    by simp, by simp, by simp, by simp, by decide, by decide, by decide, by decide⟩

/-- VoicesDoNotObserveEachOther: two instances whose voice 1 differs, seen from voice 0 and channel 0. -/
theorem witness_independence :
    ∃ s s' t t', s ≠ s' ∧ s.params = s'.params ∧ s.smpl = s'.smpl ∧ s.glob = s'.glob ∧
      s.nvoices = s'.nvoices ∧ s.voices[0]? = s'.voices[0]? ∧
      exec (.render 1) s = .next t ∧ exec (.render 1) s' = .next t' ∧
      ∀ u < s.nvoices, s.params.routeOf u = 0 → u = 0 :=
  ⟨withVoice (running 0 4 0 16384),
    withVoices (running 0 4 0 16384) (running 4 4 0 16384) .reset .reset, _, _,
    by decide, rfl, rfl, rfl, rfl, rfl, rfl, rfl, by decide⟩

/-- EveryStepKeepsTheInvariant: a state other than the power-on state that meets it, with a voice that
plays and awaits a loop, a pending voice, and a fade under way; its next step takes a RENDER. -/
theorem witness_invariant : State.Inv { withVoices
      { running 0 4 16384 16384 with loopPend := true, loopCnt := 2 }
      { Voice.reset with on := true, saveLen := 4, curLen := 4 } .reset .reset with
      glob := { Globals.reset with fadeSlope := -1, fadeTarget := 60, fadeReset := 2, fadeCount := 2 }
      port := [0xE4000001#32] } where
  legal := ⟨.inl rfl, by decide, by decide, by decide, by decide, by decide, by decide, by decide⟩
  canonical := by decide
  backed := by decide
  voices := by
    simp only [withVoices, List.forall_mem_cons]
    exact ⟨⟨by decide, by decide, by decide, rfl, rfl⟩, ⟨by decide, by decide, by decide, rfl, rfl⟩,
      ⟨by decide, by decide, by decide, rfl, rfl⟩, ⟨by decide, by decide, by decide, rfl, rfl⟩, by simp⟩
  glob := ⟨.inr (.inl ⟨rfl, by decide⟩)⟩

/-- PowerOnStateMeetsTheInvariant: a legal instance of seven voices with an image. -/
theorem witness_power_on : (Params.default 7).Legal 7 ∧ base.smpl.wf = true ∧
    ∀ c ∈ base.smpl, c.1 < (Params.default 7).smplSize := ⟨default_legal.2, by decide, by decide⟩

end Sys2Proof.Tests
end

section
/-! PROOFS. The state and its invariant (10_state.md): what each command does to the whole state, said
once (`exec_executes`), and from it the frame, the sticky events, the writers of the globals, and the
invariant. The step's reading of the port comes with the round trip of the encoding. -/

namespace Sys2Proof

/-! ## Decode of encode -/

theorem getLsbD_formatB3 (b : Byte) {i : Nat} (h : i < 8) : (formatB3 b).getLsbD i = b.getLsbD i := by
  rw [← getLsbD_operandB3 _ h, formatB3, operandB3_append]

/-- The decoder reads back every well-formed command, class by class: the packed word's fields select
the row, and the row's format gives back the operands (R60 to R66). -/
theorem decode_encode {i : Instr} (h : i.WellFormed) : decode (encode i) = i := by
  have voice {v : VoiceSel} (hv : some v ≠ some 7) (op : BitVec 5) (x : BitVec 24) :
      decode (packWord v op x) = decodeVoice v op x :=
    decode_packWord_voice (fun e => hv (congrArg some e)) op x
  cases i with
  | nop | setmvol | fade | tick | render | rdglob | reset =>
    rw [encode, decode_packWord_global]
    simp [decodeGlobal, formatB3, formatB1B2B3]
  | setcfg b =>
    rw [encode, decode_packWord_global]
    exact congrArg Instr.setcfg ((getLsbD_formatB3 _ (by decide)).trans (cfgBits_noAddBeg b))
  | clrevt v l e =>
    rw [encode, voice h]
    exact congrArg₂ (Instr.clrevt v) ((getLsbD_formatB3 _ (by decide)).trans (eventMask_loopDone l e))
      ((getLsbD_formatB3 _ (by decide)).trans (eventMask_stopped l e))
  | _ =>
    rw [encode, voice h]
    simp [decodeVoice, formatB3, formatH16, formatB1H16, formatB1B2B3, formatLen]

end Sys2Proof

namespace Sys2Proof.Machine

/-! ## What one command does to the state -/

/-- What a voice-class command does to the registers of the voice it names, with NOADDBEG = `b`. RDSTAT
and RDREG change nothing, and a command of the global class names no voice. -/
def voiceUpdate (b : Bool) : Instr → Voice → Voice
  | .dmaoffr _, x => x.dmaOff.resetFx
  | .dmaon _, x => { x with on := true, committed := false, loopPolicy := .cont }
  | .setbeg _ a, x => { x.setStart a with aboDelta := 0, aboReset := 0, aboCount := 0 }
  | .addbeg _ d, x => if b then x else x.setStart (addSigned x.curAddr d)
  | .setlen _ n, x => x.setLength n
  | .addlen _ d, x => x.setLength (addSigned x.curLen d)
  | .loopwait _ n, x =>
    if n = 0 then { x with loopPend := false, loopCnt := 0, evLoopDone := true }
    else { x with loopPend := true, loopCnt := n }
  | .addvol _ d, x => { x with curVol := addSigned x.curVol d }
  | .setvol _ u, x => { x with curVol := u }
  | .setper _ p, x => x.setPeriod p
  | .addper _ d, x => x.setPeriod (addSigned x.destPeriod d)
  | .porta _ r d, x => { x with portaRate := r, destPeriod := d }
  | .vibrato _ p w, x => { x with vibPeriod := p, vibPhase := p >>> 1, vibWidth := w, vibOffset := 0 }
  | .envelope _ r n t, x => { x with envRate := r, envReset := n, envCount := n, envTarget := t }
  | .resetfx _, x => x.resetFx
  | .smploop _ k, x => x.shrink k.toNat
  | .oneshot _, x => { x with loopPolicy := .stop }
  | .dmaoff _, x => x.dmaOff
  | .oscbeg _ n d, x => if b then x else { x with aboDelta := d, aboReset := n, aboCount := n }
  | .clrevt _ l e, x =>
    { x with evLoopDone := x.evLoopDone && !l, evStopped := x.evStopped && !e }
  | _, x => x

theorem onVoice_eq_modify (v : VoiceSel) (f : Voice → Voice) (s : State) :
    onVoice v f s =
      .next { s with voices := s.voices.modify v.toNat f, response := 0, out := [] } := by
  cases h : s.voices[v.toNat]? with
  | none => rw [onVoice_absent h, List.modify_eq_set_getElem?, h]; rfl
  | some x => rw [onVoice_present h, List.modify_eq_set_getElem?, h]; rfl

/-- A voice-class command rewrites its voice by `voiceUpdate`, answers a response, and does no more
(R80). -/
theorem exec_voice {i : Instr} {v : VoiceSel} (s : State) (h : i.voice? = some v) :
    ∃ r, exec i s = .next { s with
      voices := s.voices.modify v.toNat (voiceUpdate s.glob.noAddBeg i), response := r, out := [] } := by
  have read (u : VoiceSel) (f : Voice → Word) : ∃ r, readVoice u f s = .next { s with
      voices := s.voices.modify u.toNat id, response := r, out := [] } := by
    obtain ⟨r, hr⟩ := readVoice_cases u f s
    exact ⟨r, by rw [hr, List.modify_id]⟩
  cases i <;> cases h
  case rdstat => exact read v _
  case rdreg => exact read v _
  all_goals exact ⟨0, onVoice_eq_modify ..⟩

/-- What executing a command in `s` leaves: one case for the voice class, and one for each command of
the global class. -/
inductive Executes (s : State) : Instr → State → Prop where
  | voice {i : Instr} {v : VoiceSel} (r : Word) (h : i.voice? = some v) :
    Executes s i { s with
      voices := s.voices.modify v.toNat (voiceUpdate s.glob.noAddBeg i), response := r, out := [] }
  | nop : Executes s .nop (s.respond 0)
  | setmvol (u : Byte) : Executes s (.setmvol u)
      ({ s with glob := { s.glob with masterVol := u, fadeSlope := 0, fadeCount := 0 } }.respond 0)
  | fade (n t : Byte) : Executes s (.fade n t) ({ s with glob := s.glob.startFade n t }.respond 0)
  | tick : Executes s .tick ({ s with
      voices := (s.voices.map (Voice.effects s.glob.noAddBeg)).map (Voice.latch s.params)
      glob := s.glob.fadeStage }.respond 0)
  | renderNone : Executes s (.render 0) (s.respond 0)
  | render (n : BitVec 24) (o : List (List Int)) : Executes s (.render n) { s with
      voices := s.voices.map fun x => (x.render s.params s.smpl s.glob.masterVol n.toNat).1
      response := 0, out := o }
  | rdglob (j : Byte) : Executes s (.rdglob j) (s.respond (s.readGlob j))
  | reset : Executes s .reset { State.powerOn s.params s.nvoices s.smpl with port := s.port }
  | setcfg (b : Bool) : Executes s (.setcfg b)
      ({ s with glob := { s.glob with noAddBeg := b } }.respond 0)

/-- `Executes` covers everything `exec` can do. -/
theorem exec_executes {i : Instr} {s t : State} (h : exec i s = .next t) : Executes s i t := by
  cases hv : i.voice? with
  | some v =>
    obtain ⟨r, hr⟩ := exec_voice s hv
    rw [hr] at h
    cases h
    exact .voice r hv
  | none =>
    cases i <;> cases hv
    case none.render.refl n =>
      rcases execRender_cases n s with ⟨rfl, e⟩ | ⟨-, e⟩
      · cases e.symm.trans h
        exact .renderNone
      · cases e.symm.trans h
        exact .render n _
    all_goals
      cases h
      constructor

/-- No command changes the parameters, the sample memory, the number of voices or the port (R11, R52). -/
theorem exec_frame {i : Instr} {s t : State} (h : exec i s = .next t) :
    t.params = s.params ∧ t.smpl = s.smpl ∧ t.nvoices = s.nvoices ∧ t.port = s.port := by
  cases exec_executes h <;> simp [State.nvoices, State.powerOn]

/-- Where a voice after a command comes from: it is as before, or it is its own earlier registers under
the command, under TICK's stages and latch or under RENDER, or it is the reset voice. -/
theorem exec_voice_origin {i : Instr} {s t : State} {k : Nat} {y : Voice} (h : exec i s = .next t)
    (hy : t.voices[k]? = some y) :
    ∃ x, s.voices[k]? = some x ∧
      (y = x ∨ y = voiceUpdate s.glob.noAddBeg i x ∨
        i = .tick ∧ y = (x.effects s.glob.noAddBeg).latch s.params ∨
        (∃ n, i = .render n ∧ y = (x.render s.params s.smpl s.glob.masterVol n.toNat).1) ∨
        i = .reset ∧ y = Voice.reset) := by
  cases exec_executes h with
  | voice r hv =>
    rw [List.getElem?_modify] at hy
    obtain ⟨x, hx, rfl⟩ := Option.map_eq_some_iff.1 hy
    refine ⟨x, hx, ?_⟩
    split
    · exact .inr (.inl rfl)
    · exact .inl rfl
  | nop | setmvol | fade | renderNone | rdglob | setcfg => exact ⟨y, hy, .inl rfl⟩
  | tick =>
    simp only [State.respond_voices, List.map_map, List.getElem?_map] at hy
    obtain ⟨x, hx, rfl⟩ := Option.map_eq_some_iff.1 hy
    exact ⟨x, hx, .inr (.inr (.inl ⟨rfl, rfl⟩))⟩
  | render n o =>
    rw [List.getElem?_map] at hy
    obtain ⟨x, hx, rfl⟩ := Option.map_eq_some_iff.1 hy
    exact ⟨x, hx, .inr (.inr (.inr (.inl ⟨n, rfl, rfl⟩)))⟩
  | reset =>
    have hk : k < s.voices.length := by
      simpa [State.powerOn, State.nvoices] using (List.getElem?_eq_some_iff.1 hy).1
    exact ⟨_, List.getElem?_eq_getElem hk,
      .inr (.inr (.inr (.inr ⟨rfl, List.eq_of_mem_replicate (List.mem_of_getElem? hy)⟩)))⟩

/-! ## The step -/

/-- A step is idle, or it is a command in the state without the word taken. -/
theorem step_cases {s t : State} (h : step s = .next t) :
    t = s ∨ ∃ w rest, s.port = w :: rest ∧ exec (decode w) { s with port := rest } = .next t := by
  cases hp : s.port with
  | nil =>
    rw [step_idle hp] at h
    cases h
    exact .inl rfl
  | cons w rest => exact .inr ⟨w, rest, rfl, step_of_port hp ▸ h⟩

/-- Settles O7: the step's own equations, and the round trip of the encoding. -/
theorem stepExecutesTheWordOnThePort : Obligations.StepExecutesTheWordOnThePort :=
  ⟨fun _ _ _ => step_of_port, fun s i rest hi hp => by rw [step_of_port hp, decode_encode hi],
    fun _ => step_idle⟩

/-! ## The invariant of a voice -/

theorem Voice.inv_reset : Voice.reset.Inv := ⟨nofun, nofun, by decide, rfl, rfl⟩

theorem Voice.Inv.dmaOff {x : Voice} (h : x.Inv) : x.dmaOff.Inv :=
  ⟨nofun, nofun, by simp, h.start, h.length⟩

theorem Voice.Inv.setStart {x : Voice} (h : x.Inv) (a : Addr) : (x.setStart a).Inv :=
  ⟨h.committed_on, h.inside, h.awaited, rfl, h.length⟩

theorem Voice.Inv.setLength {x : Voice} (h : x.Inv) (n : Len) : (x.setLength n).Inv :=
  ⟨h.committed_on, h.inside, h.awaited, h.start, rfl⟩

/-- What a command does to its voice keeps the invariant. Only DMAOFFR, DMAOFF, DMAON,
LOOPWAIT and the writers of the start and the length touch a register the invariant speaks of. -/
theorem Voice.Inv.voiceUpdate {x : Voice} (h : x.Inv) (b : Bool) (i : Instr) :
    (voiceUpdate b i x).Inv := by
  have ⟨hc, hp, hl, hs, hn⟩ := h
  cases i with
  | dmaoffr | dmaoff => exact ⟨nofun, nofun, h.dmaOff.awaited, hs, hn⟩
  | dmaon => exact ⟨nofun, nofun, hl, hs, hn⟩
  | setbeg v a => exact ⟨hc, hp, hl, rfl, hn⟩
  | addbeg v d =>
    cases b
    · exact h.setStart _
    · exact h
  | setlen v n => exact h.setLength n
  | addlen v d => exact h.setLength _
  | smploop v k => exact (h.setStart _).setLength _
  | loopwait v n =>
    rw [Machine.voiceUpdate]
    split
    · exact ⟨hc, hp, by simp, hs, hn⟩
    · next hn0 => exact ⟨hc, hp, iff_of_true rfl hn0, hs, hn⟩
  | oscbeg v n d =>
    cases b
    · exact ⟨hc, hp, hl, hs, hn⟩
    · exact h
  | _ => exact ⟨hc, hp, hl, hs, hn⟩

/-- The oscillator moves both starts together (R137, 90_conflicts.md C6). -/
theorem Voice.aboStage_start {b : Bool} {x : Voice} (h : x.curAddr = x.saveAddr) :
    (x.aboStage b).curAddr = (x.aboStage b).saveAddr := by
  unfold Voice.aboStage
  split
  · exact h
  · dsimp only
    split
    · rfl
    · exact h

/-- TICK's stages keep the voice's invariant: of its registers they write the two starts alone. -/
theorem Voice.Inv.effects {x : Voice} (h : x.Inv) (b : Bool) : (x.effects b).Inv where
  committed_on := by simpa using h.committed_on
  inside := by simpa using h.inside
  awaited := by simpa using h.awaited
  start := Voice.aboStage_start (by simpa using h.start)
  length := by simpa using h.length

theorem Voice.Inv.latch {x : Voice} (h : x.Inv) (p : Params) : (x.latch p).Inv :=
  ⟨h.committed_on, h.inside, h.awaited, h.start, h.length⟩

/-- Stopping a voice needs the two pairs of the invariant alone (R160). -/
theorem Voice.inv_stop {x : Voice} (hs : x.curAddr = x.saveAddr) (hn : x.curLen = x.saveLen) :
    x.stop.Inv :=
  ⟨nofun, nofun, by simp, hs, hn⟩

/-- A position inside a window fits the position register (R14, R20). -/
theorem toNat_pos_of_lt_window {n : Nat} {len : Len} (h : n < 2 ^ fracBits * len.toNat) :
    (BitVec.ofNat 32 n).toNat = n := by
  have := len.isLt
  rw [BitVec.toNat_ofNat, Nat.mod_eq_of_lt (by rw [fracBits] at h; omega)]

/-- Loop bookkeeping keeps the invariant: a loop still awaited has a count left (R158). -/
theorem Voice.Inv.countLoop {x : Voice} (h : x.Inv) : x.countLoop.Inv := by
  have ⟨hc, hp, hl, hs, hn⟩ := h
  rcases x.countLoop_cases with ⟨-, e⟩ | ⟨-, -, e⟩ | ⟨hw, h1, e⟩ <;> rw [e]
  · exact h
  · exact ⟨hc, hp, by simp, hs, hn⟩
  · have : x.loopCnt - 1 ≠ 0 := fun h0 => h1 (by rw [← BitVec.sub_add_cancel x.loopCnt 1, h0]; rfl)
    exact ⟨hc, hp, iff_of_true hw this, hs, hn⟩

theorem Voice.Inv.wrap {x : Voice} (h : x.Inv) (extra : Nat) : (x.wrap extra).Inv := by
  have ⟨hc, hp, hl, hs, hn⟩ := h
  rcases x.wrap_cases extra with ⟨-, e⟩ | ⟨-, -, e⟩ | ⟨-, h0, e⟩ <;> rw [e]
  · exact Voice.inv_stop hs hn
  · exact Voice.inv_stop hs hn
  · have hlen : 0 < x.saveLen.toNat := BitVec.toNat_pos_of_ne_zero h0
    have hin : (if 2 ^ fracBits * x.saveLen.toNat ≤ extra then 0 else extra) <
        2 ^ fracBits * x.saveLen.toNat := by
      split
      · positivity
      · omega
    exact Voice.Inv.countLoop
      ⟨hc, fun _ _ => ⟨hlen, (toNat_pos_of_lt_window hin).trans_lt hin⟩, hl, hs, hn⟩

theorem Voice.Inv.advance {x : Voice} (h : x.Inv) : x.advance.Inv := by
  have ⟨hc, hp, hl, hs, hn⟩ := h
  rcases x.advance_cases with ⟨hin, e⟩ | ⟨-, e⟩ <;> rw [e]
  · exact ⟨hc, fun ho hd => ⟨(hp ho hd).1, (toNat_pos_of_lt_window hin).trans_lt hin⟩, hl, hs, hn⟩
  · exact h.wrap _

/-- A commit opens the window at its start; it is taken by a voice that is on (R151, R152). -/
theorem Voice.Inv.commit {x : Voice} (h : x.Inv) (ho : x.on = true) : x.commit.Inv := by
  have ⟨_, _, hl, hs, hn⟩ := h
  rcases x.commit_cases with ⟨-, e⟩ | ⟨h0, e⟩ <;> rw [e]
  · exact Voice.inv_stop hs hn
  · have hlen : 0 < x.saveLen.toNat := BitVec.toNat_pos_of_ne_zero h0
    exact ⟨fun _ => ho, fun _ _ => ⟨hlen, by simpa using hlen⟩, hl, hs, hn⟩

theorem Voice.Inv.frames {x : Voice} (h : x.Inv) (p : Params) (m : Memory) (g : Byte) (n : Nat) :
    (x.frames p m g n).1.Inv := by
  induction n generalizing x with
  | zero => exact h
  | succ n ih =>
    cases ho : x.on with
    | false => rw [Voice.frames_off _ ho]; exact h
    | true => rw [Voice.frames_succ _ ho]; exact ih h.advance

/-- RENDER keeps the voice's invariant. `Voice.render_keeps` does not serve here: a commit keeps the
invariant only of a voice that is on. -/
theorem Voice.Inv.render {x : Voice} (h : x.Inv) (p : Params) (m : Memory) (g : Byte) (n : Nat) :
    (x.render p m g n).1.Inv := by
  unfold Voice.render
  split
  · next ho => exact (h.commit ho.1).frames p m g n
  · exact h.frames p m g n

/-- Every command keeps the invariant of every voice. -/
theorem exec_keeps_voice_inv {i : Instr} {s t : State} (h : exec i s = .next t)
    (hs : ∀ x ∈ s.voices, x.Inv) : ∀ y ∈ t.voices, y.Inv := by
  intro y hy
  obtain ⟨k, hk⟩ := List.mem_iff_getElem?.1 hy
  obtain ⟨x, hx, origin⟩ := exec_voice_origin h hk
  have hi : x.Inv := hs x (List.mem_of_getElem? hx)
  rcases origin with rfl | rfl | ⟨-, rfl⟩ | ⟨n, -, rfl⟩ | ⟨-, rfl⟩
  · exact hi
  · exact hi.voiceUpdate _ i
  · exact (hi.effects _).latch _
  · exact hi.render ..
  · exact Voice.inv_reset

/-! ## The invariant of the fade -/

theorem Globals.inv_of_slope_zero {g : Globals} (h : g.fadeSlope = 0) : g.Inv := ⟨.inl h⟩

/-- FADE starts a ramp toward its target, or none (R121). -/
theorem Globals.inv_startFade (g : Globals) (n t : Byte) : (g.startFade n t).Inv := by
  unfold Globals.startFade
  split
  · exact Globals.inv_of_slope_zero rfl
  · next hne =>
    have hv : g.masterVol.toNat ≠ t.toNat := fun e => hne (.inr (BitVec.eq_of_toNat_eq e))
    by_cases hlt : t.toNat < g.masterVol.toNat
    · exact ⟨.inr (.inl ⟨by simp [hlt, trunc], hlt⟩)⟩
    · exact ⟨.inr (.inr ⟨by simp [hlt, trunc], by dsimp only; omega⟩)⟩

@[simp] theorem Globals.startFade_noAddBeg (g : Globals) (n t : Byte) :
    (g.startFade n t).noAddBeg = g.noAddBeg := by
  unfold Globals.startFade
  split <;> rfl

/-- The fade steps by one toward its target and stops on it, so it never passes it (R139). -/
theorem Globals.Inv.fadeStage {g : Globals} (h : g.Inv) : g.fadeStage.Inv := by
  unfold Globals.fadeStage
  split
  · exact h
  · next hs =>
    dsimp only
    split
    · split
      · exact Globals.inv_of_slope_zero rfl
      · next hne =>
        rcases h.slope with h0 | ⟨hd, hlt⟩ | ⟨hu, hlt⟩
        · exact absurd h0 hs
        · refine ⟨.inr (.inl ⟨hd, ?_⟩)⟩
          simp only [addSigned_eq, hd, BitVec.signExtend_eq] at hne ⊢
          bv_omega
        · refine ⟨.inr (.inr ⟨hu, ?_⟩)⟩
          simp only [addSigned_eq, hu, BitVec.signExtend_eq] at hne ⊢
          bv_omega
    · exact ⟨h.slope⟩

/-- Every command keeps the invariant of the fade. -/
theorem exec_keeps_glob_inv {i : Instr} {s t : State} (h : exec i s = .next t) (hs : s.glob.Inv) :
    t.glob.Inv := by
  cases exec_executes h with
  | voice | nop | renderNone | render | rdglob => exact hs
  | setmvol | reset => exact Globals.inv_of_slope_zero rfl
  | fade n t => exact Globals.inv_startFade ..
  | tick => exact hs.fadeStage
  | setcfg b => exact ⟨hs.slope⟩

/-! ## The invariant of the state -/

theorem exec_keeps_inv {i : Instr} {s t : State} (h : exec i s = .next t) (hs : s.Inv) : t.Inv := by
  obtain ⟨hp, hm, hn, -⟩ := exec_frame h
  exact
    { legal := by rw [hp, hn]; exact hs.legal
      canonical := by rw [hm]; exact hs.canonical
      backed := by rw [hm, hp]; exact hs.backed
      voices := exec_keeps_voice_inv h hs.voices
      glob := exec_keeps_glob_inv h hs.glob }

theorem State.Inv.setPort {s : State} (h : s.Inv) (ws : List Word) : { s with port := ws }.Inv :=
  ⟨h.legal, h.canonical, h.backed, h.voices, h.glob⟩

theorem State.inv_powerOn {p : Params} {nv : Nat} {m : Memory} (hp : p.Legal nv) (hm : m.wf = true)
    (hb : ∀ c ∈ m, c.1 < p.smplSize) : (State.powerOn p nv m).Inv where
  legal := by simpa [State.powerOn, State.nvoices] using hp
  canonical := hm
  backed := hb
  voices x hx := List.eq_of_mem_replicate hx ▸ Voice.inv_reset
  glob := Globals.inv_of_slope_zero rfl

/-- Settles O56: an idle step changes nothing, and any other step is a command, which keeps the parts of
the invariant one by one. -/
theorem everyStepKeepsTheInvariant : Obligations.EveryStepKeepsTheInvariant := by
  intro s t hs h
  rcases step_cases h with rfl | ⟨w, rest, -, he⟩
  · exact hs
  · exact exec_keeps_inv he (hs.setPort rest)

/-- Settles O55: every voice is the reset voice and no fade runs. -/
theorem powerOnStateMeetsTheInvariant : Obligations.PowerOnStateMeetsTheInvariant :=
  ⟨fun _ _ _ => State.inv_powerOn,
    State.inv_powerOn
      ⟨.inl rfl, by decide, by decide, by decide, by decide, by decide, by decide, by decide⟩ rfl nofun⟩

/-! ## Frames of the state -/

/-- Settles O49, from the frame of a command. -/
theorem memoryAndParametersNeverChange : Obligations.MemoryAndParametersNeverChange := by
  refine ⟨fun i s t h => ?_, fun s t h => ?_⟩
  · obtain ⟨hp, hm, hn, -⟩ := exec_frame h
    exact ⟨hm, hp, hn⟩
  · rcases step_cases h with rfl | ⟨w, rest, -, he⟩
    · exact ⟨fun _ => rfl, rfl, rfl, rfl⟩
    · obtain ⟨hp, hm, hn, -⟩ := exec_frame he
      exact ⟨fun a => by rw [hm], hm, hp, hn⟩

/-- Settles O53, by the cases of `Executes`: each names its write to the globals, if any. -/
theorem globalsChangeOnlyByTheirCommands : Obligations.GlobalsChangeOnlyByTheirCommands := by
  intro i s t h hr
  cases exec_executes h with
  | voice | nop | renderNone | render | rdglob => exact ⟨fun _ => rfl, fun _ _ _ => rfl⟩
  | setmvol u => exact ⟨fun _ => rfl, fun hu => absurd rfl (hu u)⟩
  | fade n t => exact ⟨fun _ => Globals.startFade_noAddBeg .., fun _ hf => absurd rfl (hf n t)⟩
  | tick => exact ⟨fun _ => Globals.fadeStage_noAddBeg _, fun _ _ ht => absurd rfl ht⟩
  | reset => exact absurd rfl hr
  | setcfg b => exact ⟨fun hb => absurd rfl (hb b), fun _ _ _ => rfl⟩

/-! ## The events -/

/-- No event set in `x` is clear in `y`. -/
def Voice.EventsKept (x y : Voice) : Prop :=
  (x.evLoopDone = true → y.evLoopDone = true) ∧ (x.evStopped = true → y.evStopped = true)

theorem Voice.EventsKept.trans {x y z : Voice} (h : x.EventsKept y) (h' : y.EventsKept z) :
    x.EventsKept z :=
  ⟨h'.1 ∘ h.1, h'.2 ∘ h.2⟩

theorem Voice.eventsKept_countLoop (x : Voice) : x.EventsKept x.countLoop := by
  rcases x.countLoop_cases with ⟨-, e⟩ | ⟨-, -, e⟩ | ⟨-, -, e⟩ <;> rw [e]
  · exact ⟨id, id⟩
  · exact ⟨fun _ => rfl, id⟩
  · exact ⟨id, id⟩

theorem Voice.eventsKept_stop (x : Voice) : x.EventsKept x.stop := ⟨id, fun _ => rfl⟩

theorem Voice.eventsKept_advance (x : Voice) : x.EventsKept x.advance := by
  rcases x.advance_cases with ⟨-, e⟩ | ⟨-, e⟩ <;> rw [e]
  · exact ⟨id, id⟩
  · rcases x.wrap_cases (x.pos.toNat + x.delta.toNat - 2 ^ fracBits * x.actLen.toNat) with
      ⟨-, e⟩ | ⟨-, -, e⟩ | ⟨-, -, e⟩ <;> rw [e]
    · exact x.eventsKept_stop
    · exact ⟨id, fun _ => rfl⟩
    · refine .trans ?_ (Voice.eventsKept_countLoop _)
      exact ⟨id, id⟩

theorem Voice.eventsKept_commit (x : Voice) : x.EventsKept x.commit := by
  rcases x.commit_cases with ⟨-, e⟩ | ⟨-, e⟩ <;> rw [e]
  · exact ⟨id, fun _ => rfl⟩
  · exact ⟨id, id⟩

theorem Voice.eventsKept_render (x : Voice) (p : Params) (m : Memory) (g : Byte) (n : Nat) :
    x.EventsKept (x.render p m g n).1 :=
  Voice.render_keeps (P := x.EventsKept) (fun y h => h.trans y.eventsKept_commit)
    (fun y _ h => h.trans y.eventsKept_advance) p m g n ⟨id, id⟩

/-- Everything a voice-class command can do to the events: nothing, CLREVT's clearing (R172), or
LOOPWAIT 0's setting (R89). -/
theorem voiceUpdate_events (b : Bool) (i : Instr) (x : Voice) :
    ((voiceUpdate b i x).evLoopDone = x.evLoopDone ∧ (voiceUpdate b i x).evStopped = x.evStopped) ∨
    (∃ v l e, i = .clrevt v l e ∧ (voiceUpdate b i x).EventsKept x) ∨
    (∃ v, i = .loopwait v 0 ∧ (voiceUpdate b i x).evLoopDone = true ∧
      (voiceUpdate b i x).evStopped = x.evStopped) := by
  cases i with
  | clrevt v l e =>
    exact .inr (.inl ⟨v, l, e, rfl, by simp +contextual [voiceUpdate, Voice.EventsKept]⟩)
  | loopwait v n =>
    by_cases hn : n = 0
    · subst hn
      exact .inr (.inr ⟨v, rfl, rfl, rfl⟩)
    · rw [voiceUpdate, if_neg hn]
      exact .inl ⟨rfl, rfl⟩
  | addbeg | oscbeg => cases b <;> exact .inl ⟨rfl, rfl⟩
  | _ => exact .inl ⟨rfl, rfl⟩

/-- Settles O52, by where the voice after the command comes from. -/
theorem eventsAreSticky : Obligations.EventsAreSticky := by
  intro i s t k x y h hx hy
  obtain ⟨x', hx', origin⟩ := exec_voice_origin h hy
  obtain rfl : x' = x := Option.some.inj (hx'.symm.trans hx)
  rcases origin with rfl | rfl | ⟨-, rfl⟩ | ⟨n, rfl, rfl⟩ | ⟨rfl, rfl⟩
  · exact ⟨fun _ _ => ⟨id, id⟩, fun _ => ⟨id, fun _ => id⟩⟩
  · rcases voiceUpdate_events s.glob.noAddBeg i x' with
      ⟨hl, he⟩ | ⟨v, l, e, rfl, hk⟩ | ⟨v, rfl, hl, he⟩
    · rw [hl, he]
      exact ⟨fun _ _ => ⟨id, id⟩, fun _ => ⟨id, fun _ => id⟩⟩
    · exact ⟨fun hc => absurd rfl (hc v l e), fun _ => ⟨hk.2, fun _ => hk.1⟩⟩
    · rw [hl, he]
      exact ⟨fun _ _ => ⟨fun _ => rfl, id⟩, fun _ => ⟨id, fun hw => absurd rfl (hw v)⟩⟩
  · simp only [Voice.latch_evLoopDone, Voice.latch_evStopped, Voice.effects_evLoopDone,
      Voice.effects_evStopped]
    exact ⟨fun _ _ => ⟨id, id⟩, fun _ => ⟨id, fun _ => id⟩⟩
  · exact ⟨fun _ _ => x'.eventsKept_render .., fun hr => absurd rfl (hr n)⟩
  · exact ⟨fun _ hr => absurd rfl hr, fun _ => ⟨nofun, fun _ => nofun⟩⟩

end Sys2Proof.Machine
end

section
/-! PROOFS. The byte order of a command (20_memory.md R44). -/

namespace Sys2Proof

/-! ## Bytes of a command word -/

/-- Appending bits below `x` is positional: `x` counts units of `2 ^ n`. -/
theorem toNat_append_eq_add {m n : Nat} (x : BitVec m) (y : BitVec n) :
    (x ++ y).toNat = x.toNat * 2 ^ n + y.toNat := by
  rw [BitVec.toNat_append, ← Nat.shiftLeft_add_eq_or_of_lt y.isLt, Nat.shiftLeft_eq]

/-- The word the decoder puts together from four bytes, as a number: the first byte is the most
significant (R44). -/
theorem bytes_append_eq_ofNat (b0 b1 b2 b3 : Byte) : (b0 ++ b1 ++ b2 ++ b3 : Word) =
    BitVec.ofNat 32 (b0.toNat * 2 ^ 24 + b1.toNat * 2 ^ 16 + b2.toNat * 2 ^ 8 + b3.toNat) := by
  have value : (b0 ++ b1 ++ b2 ++ b3).toNat =
      b0.toNat * 2 ^ 24 + b1.toNat * 2 ^ 16 + b2.toNat * 2 ^ 8 + b3.toNat := by
    simp only [toNat_append_eq_add]
    omega
  rw [← value, BitVec.ofNat_toNat, BitVec.setWidth_eq]

theorem decodeBytes_cons_four (b0 b1 b2 b3 : Byte) (rest : List Byte) :
    decodeBytes (b0 :: b1 :: b2 :: b3 :: rest) = .ok (decode (b0 ++ b1 ++ b2 ++ b3), rest) := rfl

theorem decodeBytes_of_length_lt {bs : List Byte} (h : bs.length < 4) :
    decodeBytes bs = .error .truncated := by
  match bs, h with
  | [], _ | [_], _ | [_, _], _ | [_, _, _], _ => rfl

/-- Settles O6: the decoder appends the four bytes, and appending is positional. -/
theorem commandBytesAreBigEndian : Obligations.CommandBytesAreBigEndian :=
  ⟨fun b0 b1 b2 b3 rest => by rw [decodeBytes_cons_four, bytes_append_eq_ofNat],
    fun _ => decodeBytes_of_length_lt⟩

end Sys2Proof
end

section
/-! PROOFS. The encoding (30_encoding.md): the round trip, the voice a word selects, the ignored operand
bits, and the command for a voice the instance has not. -/

namespace Sys2Proof

/-- Settles O1: the round trip, class by class. -/
theorem decodeOfEncodeIsIdentity : Obligations.DecodeOfEncodeIsIdentity :=
  fun _ => decode_encode

/-! ## The voice a word selects -/

theorem decodeGlobal_voice? (op : BitVec 5) (x : BitVec 24) : (decodeGlobal op x).voice? = none := by
  unfold decodeGlobal
  split <;> rfl

/-- A row of the voice table is about the selected voice; a reserved `op` is NOP, about none (R63, R66). -/
theorem decodeVoice_voice? (v : VoiceSel) (op : BitVec 5) (x : BitVec 24) :
    (decodeVoice v op x).voice? = some v ∨ decodeVoice v op x = .nop := by
  unfold decodeVoice
  split
  case h_23 => exact .inr rfl
  all_goals exact .inl rfl

/-- Settles O2: the voice table is reached only when `vs` is not 7. -/
theorem decodedCommandsAreWellFormed : Obligations.DecodedCommandsAreWellFormed := by
  intro w
  rw [Instr.WellFormed, Instr.voiceSelOk, decode]
  split
  · rw [decodeGlobal_voice?]
    exact nofun
  · next hv =>
    rcases decodeVoice_voice? (vsField w) (opField w) (operandField w) with e | e <;> rw [e]
    · exact fun h => hv (Option.some.inj h)
    · exact nofun

/-! ## Ignored operand bits -/

/-- A mask of ones hides nothing. -/
theorem and_eq_of_allOnes {n : Nat} {m : BitVec n} (h : m = BitVec.allOnes n) (x : BitVec n) :
    x &&& m = x := by rw [h, BitVec.and_allOnes]

/-- The mask of a global-class `op` is all ones on each operand its row reads. -/
theorem decodeGlobal_and_usedOperands (op : BitVec 5) (x : BitVec 24) :
    decodeGlobal op (x &&& operandField (usedOperandsGlobal op)) = decodeGlobal op x := by
  unfold decodeGlobal
  split <;> rename_i hop
  all_goals simp (disch := decide) [usedOperandsGlobal, operandField, hop, operandB1, operandB3,
    BitVec.extractLsb'_and, and_eq_of_allOnes]

/-- The mask of a voice-class `op` is all ones on each operand its row reads. -/
theorem decodeVoice_and_usedOperands (v : VoiceSel) (op : BitVec 5) (x : BitVec 24) :
    decodeVoice v op (x &&& operandField (usedOperandsVoice op)) = decodeVoice v op x := by
  unfold decodeVoice
  split <;> rename_i hop
  all_goals simp (disch := decide) [usedOperandsVoice, operandField, hop, operandB1, operandB2,
    operandB3, operandH16, operandLen, BitVec.extractLsb'_and, and_eq_of_allOnes]

/-- The opcode byte is in use whatever the command, so a field inside it is not hidden (R61). -/
theorem extractLsb'_and_usedBits (w' w : Word) {start len : Nat}
    (h : (0xFF000000#32).extractLsb' start len = BitVec.allOnes len) :
    (w' &&& usedBits w).extractLsb' start len = w'.extractLsb' start len := by
  rw [usedBits, BitVec.extractLsb'_and, BitVec.extractLsb'_or, h, BitVec.allOnes_or, BitVec.and_allOnes]

theorem vsField_and_usedBits (w' w : Word) : vsField (w' &&& usedBits w) = vsField w' :=
  extractLsb'_and_usedBits w' w (by decide)

theorem opField_and_usedBits (w' w : Word) : opField (w' &&& usedBits w) = opField w' :=
  extractLsb'_and_usedBits w' w (by decide)

theorem operandField_and_usedBits (w' w : Word) :
    operandField (w' &&& usedBits w) = operandField w' &&& operandField (if vsField w = 7 then
      usedOperandsGlobal (opField w) else usedOperandsVoice (opField w)) := by
  simp [operandField, usedBits, BitVec.extractLsb'_and, BitVec.extractLsb'_or]

/-- The used bits of a word are enough to decode any word of the same opcode byte. -/
theorem decode_and_usedBits {w' w : Word} (hv : vsField w' = vsField w) (ho : opField w' = opField w) :
    decode (w' &&& usedBits w) = decode w' := by
  simp only [decode, vsField_and_usedBits, opField_and_usedBits, operandField_and_usedBits, hv, ho]
  split
  · exact decodeGlobal_and_usedOperands ..
  · exact decodeVoice_and_usedOperands ..

/-- Settles O3: the opcode byte is among the used bits, so both words have the same one, and then both
decode as their common used bits do. -/
theorem ignoredBitsDoNotMatter : Obligations.IgnoredBitsDoNotMatter := by
  intro w w' h
  have hv : vsField w' = vsField w := by
    rw [← vsField_and_usedBits w' w, ← h, vsField_and_usedBits]
  have ho : opField w' = opField w := by
    rw [← opField_and_usedBits w' w, ← h, opField_and_usedBits]
  rw [← decode_and_usedBits hv ho, ← h, decode_and_usedBits rfl rfl]

/-! ## Example words -/

/-- Settles O5: nine closed words, evaluated. -/
theorem exampleWordsDecode : Obligations.ExampleWordsDecode := by
  unfold Obligations.ExampleWordsDecode
  decide

end Sys2Proof

namespace Sys2Proof.Machine

/-! ## A voice the instance has not -/

/-- Settles O9: a voice-class command rewrites its voice or reads it, and neither finds one here. -/
theorem absentVoiceMakesCommandNop : Obligations.AbsentVoiceMakesCommandNop := by
  intro i v s hi hv
  have absent : s.voices[v.toNat]? = none := List.getElem?_eq_none hv
  rcases exec_voice_cases s hi with ⟨f, e⟩ | ⟨f, e⟩ <;> rw [e]
  · exact onVoice_absent absent
  · exact readVoice_absent absent

end Sys2Proof.Machine
end

section
/-! PROOFS. Voice enable and sample-window commands (40_voice_dma_sample.md): the frame of the voice
class, then each command's word and its whole next state. A command's `exec` is `onVoice` of its own
function, so `onVoice_present` states its effect on a voice that is present. -/

namespace Sys2Proof.Machine

/-! ## The frame of the voice class -/

/-- Settles O48: `exec_voice` names the whole next state, and the other voices are outside its
`modify`. -/
theorem voiceCommandsTouchOnlyTheirVoice : Obligations.VoiceCommandsTouchOnlyTheirVoice := by
  intro i v s t hv h
  obtain ⟨r, hr⟩ := exec_voice s hv
  cases hr.symm.trans h
  exact ⟨rfl, List.length_modify .., fun _ => rfl, fun _ hk => List.getElem?_modify_ne _ _ hk.symm⟩

/-! ## Arithmetic at a register write -/

theorem toNat_trunc (n : Nat) (x : Int) : ((trunc n x).toNat : Int) = x % 2 ^ n := by
  rw [trunc, BitVec.toNat_ofInt, Int.toNat_of_nonneg (Int.emod_nonneg _ (by positivity)),
    Nat.cast_pow, Nat.cast_ofNat]

theorem toNat_addSigned {n m : Nat} (r : BitVec n) (d : BitVec m) :
    ((addSigned r d).toNat : Int) = ((r.toNat : Int) + d.toInt) % 2 ^ n := toNat_trunc ..

/-! ## Voice enable and loop policy -/

/-- Settles O10: `dma_off`, and `reset_fx` after it for DMAOFFR. -/
theorem dmaOffClearsModeAndLoopCount : Obligations.DmaOffClearsModeAndLoopCount :=
  fun _ _ _ _ h => ⟨fun hv => ⟨decode_packWord_voice hv .., decode_packWord_voice hv ..⟩,
    onVoice_present h, onVoice_present h⟩

/-- Settles O12: each command rewrites the flags of its voice alone. -/
theorem dmaOnArmsAndOneShotSetsPolicy : Obligations.DmaOnArmsAndOneShotSetsPolicy :=
  fun _ _ _ _ h => ⟨fun hv => ⟨decode_packWord_voice hv .., decode_packWord_voice hv ..⟩,
    onVoice_present h, onVoice_present h⟩

/-- Settles O17, by the two branches of the count. -/
theorem loopWaitArmsOrCompletes : Obligations.LoopWaitArmsOrCompletes := by
  intro s v x ign c h
  have effect : exec (.loopwait v c) s = _ := onVoice_present h
  refine ⟨fun hv => ?_, fun hc => ?_, fun hc => ?_⟩
  · exact (decode_packWord_voice hv ..).trans (congrArg (Instr.loopwait v) (operandB3_append ign c))
  · rw [effect, if_pos hc]
  · rw [effect, if_neg hc]

/-! ## The sample window -/

/-- Settles O13: `onVoice` rewrites both starts and the oscillator's registers at once. -/
theorem setBegWritesBothStarts : Obligations.SetBegWritesBothStarts :=
  fun _ _ _ _ h => ⟨fun hv => decode_packWord_voice hv .., onVoice_present h⟩

/-- Settles O14: at 24 bits the signed step is the operand itself, and under NOADDBEG the voice is
written back as it was. -/
theorem addBegWrapsAndObeysNoAddBeg : Obligations.AddBegWrapsAndObeysNoAddBeg := by
  intro s v x d h
  have effect : exec (.addbeg v d) s = _ := onVoice_present h
  refine ⟨fun hv => decode_packWord_voice hv .., fun hb => ?_, fun hb => ?_⟩
  · rw [effect, hb, addSigned_eq, BitVec.signExtend_eq]
    rfl
  · rw [effect, if_pos hb, voices_set_self h]

/-- Settles O15: SETLEN's operand is the low 18 bits, and ADDLEN's length is the wrapped sum. -/
theorem setLenAndAddLenWriteBothLengths : Obligations.SetLenAndAddLenWriteBothLengths := by
  intro s v x ign n d h
  refine ⟨fun hv => ⟨?_, decode_packWord_voice hv ..⟩, onVoice_present h,
    addSigned x.curLen d, toNat_addSigned .., onVoice_present h⟩
  exact (decode_packWord_voice hv ..).trans (congrArg (Instr.setlen v) (operandLen_append ign n))

theorem Voice.shrink_saveAddr (x : Voice) (k : Nat) :
    (x.shrink k).saveAddr.toNat = (x.saveAddr.toNat + min k x.saveLen.toNat) % 2 ^ 24 := by
  have start : ((x.shrink k).saveAddr.toNat : Int) =
      ((x.saveAddr.toNat : Int) + (min k x.saveLen.toNat : Nat)) % 2 ^ 24 := toNat_trunc ..
  exact_mod_cast start

/-- The shrink takes off no more than there is, so the length does not wrap (R87). -/
theorem Voice.shrink_saveLen (x : Voice) (k : Nat) :
    (x.shrink k).saveLen.toNat = x.saveLen.toNat - min k x.saveLen.toNat := by
  have bound := x.saveLen.isLt
  have length : ((x.shrink k).saveLen.toNat : Int) =
      (x.saveLen.toNat : Int) - (min k x.saveLen.toNat : Nat) :=
    toNat_trunc_of_lt (by omega) (by omega)
  omega

/-- Settles O16: both starts and both lengths come from the one shrink. -/
theorem smpLoopShrinksInPlace : Obligations.SmpLoopShrinksInPlace :=
  fun _ _ x k h => ⟨fun hv => decode_packWord_voice hv .., (x.shrink k.toNat).saveAddr,
    (x.shrink k.toNat).saveLen, x.shrink_saveAddr _, x.shrink_saveLen _, onVoice_present h⟩

end Sys2Proof.Machine
end

section
/-! PROOFS. Pitch and volume commands (41_pitch_volume.md). Each is `onVoice` of a register write, and
its signed step has the register's own width. -/

namespace Sys2Proof.Machine

/-- A step of the register's own width needs no sign extension: the sum modulo `2 ^ n` is unsigned. -/
theorem addSigned_same_width {n : Nat} (r d : BitVec n) : addSigned r d = r + d := by
  rw [addSigned_eq, BitVec.signExtend_eq]

/-- Settles O18: `onVoice` writes the one register, and the signed step is the operand byte. -/
theorem setVolAndAddVolWriteVolume : Obligations.SetVolAndAddVolWriteVolume := by
  intro s v x ign b h
  have effect : exec (.addvol v b) s = _ := onVoice_present h
  refine ⟨fun hv => ⟨?_, ?_⟩, onVoice_present h, ?_⟩
  · exact (decode_packWord_voice hv ..).trans (congrArg (Instr.addvol v) (operandB3_append ign b))
  · exact (decode_packWord_voice hv ..).trans (congrArg (Instr.setvol v) (operandB3_append ign b))
  · rw [effect, addSigned_same_width]

/-- Settles O19: `setPeriod` writes both periods, and the signed step is the operand half. -/
theorem setPerAndAddPerWriteBothPeriods : Obligations.SetPerAndAddPerWriteBothPeriods := by
  intro s v x ign p h
  have effect : exec (.addper v p) s = _ := onVoice_present h
  refine ⟨fun hv => ⟨?_, ?_⟩, onVoice_present h, ?_⟩
  · exact (decode_packWord_voice hv ..).trans (congrArg (Instr.setper v) (operandH16_append ign p))
  · exact (decode_packWord_voice hv ..).trans (congrArg (Instr.addper v) (operandH16_append ign p))
  · rw [effect, addSigned_same_width, Voice.setPeriod]

end Sys2Proof.Machine
end

section
/-! PROOFS. Commands that start effects, and the master volume (42_effect_start.md). A voice-class
command's `exec` is `onVoice` of its own function; FADE is said once, for its jump and for its ramp. -/

namespace Sys2Proof.Machine

/-! ## Effects of one voice -/

/-- Settles O11: RESETFX is `reset_fx` of its voice. -/
theorem resetFxClearsEveryDriveValue : Obligations.ResetFxClearsEveryDriveValue :=
  fun _ _ _ _ h => ⟨fun hv => decode_packWord_voice hv .., onVoice_present h⟩

/-- Settles O20: each command's word gives back its operand bytes, and `onVoice` writes the drive
values; the countdown's shift by one bit is the halving. -/
theorem effectStartsLoadDriveValues : Obligations.EffectStartsLoadDriveValues := by
  intro s v x a b c h hx
  refine ⟨fun hv => ⟨?_, ?_, ?_⟩, onVoice_present hx,
    ⟨a >>> 1, BitVec.toNat_ushiftRight .., onVoice_present hx⟩, onVoice_present hx⟩
  · rw [decode_packWord_voice hv]
    exact congrArg₂ (Instr.porta v) (operandB1_append a h) (operandH16_append a h)
  · rw [decode_packWord_voice hv]
    exact congrArg₂ (Instr.vibrato v) (operandB1_bytes a b c) (operandB3_bytes a b c)
  · rw [decode_packWord_voice hv]
    simp [decodeVoice]

/-- Settles O21: under NOADDBEG the voice is written back as it was. -/
theorem oscBegLoadsOscillatorOrObeysNoAddBeg : Obligations.OscBegLoadsOscillatorOrObeysNoAddBeg := by
  intro s v x n d h
  have effect : exec (.oscbeg v n d) s = _ := onVoice_present h
  refine ⟨fun hv => ?_, fun hb => ?_, fun hb => ?_⟩
  · rw [decode_packWord_voice hv]
    exact congrArg₂ (Instr.oscbeg v) (operandB1_append n d) (operandH16_append n d)
  · rw [effect, hb]
    rfl
  · rw [effect, if_pos hb, voices_set_self h]

/-! ## The master volume -/

/-- Settles O22: the volume is operand byte `b3`, and the fade's slope and count are cleared with it. -/
theorem setMVolCancelsFade : Obligations.SetMVolCancelsFade :=
  fun _ ign b => ⟨(decode_packWord_global ..).trans (congrArg Instr.setmvol (operandB3_append ign b)),
    rfl⟩

/-- FADE with speed 0 or at its target jumps (R121). -/
theorem Globals.startFade_jump {g : Globals} {n t : Byte} (h : n = 0 ∨ g.masterVol = t) :
    g.startFade n t = { g with
      masterVol := t, fadeSlope := 0, fadeTarget := t, fadeReset := 0, fadeCount := 0 } :=
  if_pos h

/-- FADE with a speed and another target loads the ramp, whose slope is the direction (R121). -/
theorem Globals.startFade_ramp {g : Globals} {n t : Byte} (hn : n ≠ 0)
    (ht : t.toNat ≠ g.masterVol.toNat) :
    g.startFade n t = { g with
      fadeSlope := if t.toNat < g.masterVol.toNat then -1 else 1
      fadeTarget := t, fadeReset := n, fadeCount := n } := by
  have moves : ¬ (n = 0 ∨ g.masterVol = t) := not_or.mpr ⟨hn, fun e => ht (e ▸ rfl)⟩
  rw [startFade, if_neg moves]
  split <;> rfl

/-- Settles O23: the jump, and the ramp on each side of the target. -/
theorem fadeJumpsOrLoadsRamp : Obligations.FadeJumpsOrLoadsRamp := by
  intro s ign n t
  have effect : exec (.fade n t) s = .next ({ s with glob := s.glob.startFade n t }.respond 0) := rfl
  refine ⟨?_, fun hj => ?_, fun hn hlt => ?_, fun hn hlt => ?_⟩
  · rw [decode_packWord_global]
    exact congrArg₂ Instr.fade (operandB1_bytes n ign t) (operandB3_bytes n ign t)
  · rw [effect, Globals.startFade_jump hj, State.respond]
  · rw [effect, Globals.startFade_ramp hn hlt.ne, if_pos hlt, State.respond]
  · rw [effect, Globals.startFade_ramp hn hlt.ne', if_neg hlt.asymm, State.respond]

end Sys2Proof.Machine
end

section
/-! PROOFS. The stages of TICK (43_tick.md R132 to R141), one equation per case, and the whole of one
TICK from them. -/

namespace Sys2Proof.Machine

/-- A register that does not read as 0 is not 0. -/
theorem ne_zero_of_toNat_ne_zero {n : Nat} {r : BitVec n} (h : r.toNat ≠ 0) : r ≠ 0 :=
  fun e => h (by rw [e]; exact BitVec.toNat_zero)

/-! ## Vibrato -/

/-- The vibrato period is the scaled destination, clamped to its register (R132). -/
theorem toNat_vibratoPeriod (d o : Half) :
    ((vibratoPeriod d o).toNat : Int) =
      max 0 (min 65535 ((d.toNat : Int) * (2048 + o.toInt) / 2048)) := by
  have range := sat_mem (lo := 0) (hi := 65535) (by decide)
    (shiftRight ((d.toNat : Int) * (2048 + o.toInt)) 11)
  rw [vibratoPeriod, toNat_trunc_of_lt range.1 (by omega), sat_eq_max_min (by decide)]
  rfl

/-- An armed vibrato stage (R132); the two results of the countdown are left as they are. -/
theorem Voice.vibratoStage_armed {x : Voice} (h : x.vibPeriod ≠ 0) :
    x.vibratoStage = { x with
      vibOffset := x.vibOffset + x.vibWidth.signExtend 16
      curPeriod := if x.portaRate = 0 then
        vibratoPeriod x.destPeriod (x.vibOffset + x.vibWidth.signExtend 16) else x.curPeriod
      vibPhase := (countdown x.vibPhase x.vibPeriod).2
      vibWidth := if (countdown x.vibPhase x.vibPeriod).1 then -x.vibWidth else x.vibWidth } := by
  have offset : trunc 16 (x.vibOffset.toInt + x.vibWidth.toInt) =
      x.vibOffset + x.vibWidth.signExtend 16 := by
    simp [trunc, BitVec.signExtend, BitVec.ofInt_add]
  rw [vibratoStage, if_neg h, offset]
  simp only [negate_eq]

/-- Settles O25: the period is the old one while portamento is armed and the scaled one otherwise, and
the countdown fires or goes down. -/
theorem vibratoStageStepsTheTriangle : Obligations.VibratoStageStepsTheTriangle := by
  refine fun x => ⟨Voice.vibratoStage_idle, fun h => ⟨x.vibratoStage.curPeriod, ?_, ?_, ?_, ?_⟩⟩
  · intro hr
    rw [Voice.vibratoStage_armed h, if_neg hr]
  · intro hr
    rw [Voice.vibratoStage_armed h, if_pos hr, toNat_vibratoPeriod]
  · intro hc
    rw [Voice.vibratoStage_armed h, countdown_fire hc]
    rfl
  · intro hc
    rw [Voice.vibratoStage_armed h, countdown_wait hc]
    rfl

/-! ## Portamento -/

theorem portaStep_at (d r : Nat) : portaStep d d r = (d, true) := by simp [portaStep]

/-- A step down ends at the floored product or, if that is not above it, at the destination (R134). -/
theorem portaStep_down {c d : Nat} (h : d < c) (r : Nat) : portaStep c d r =
    (max d (c * (256 - r) / 256), decide (c * (256 - r) / 256 ≤ d)) := by
  simp only [portaStep, Nat.shiftRight_eq_div_pow, Nat.reducePow, if_pos h]
  split
  · next ha => rw [max_eq_left ha, decide_eq_true ha]
  · next ha => rw [max_eq_right (by omega), decide_eq_false ha]

/-- A step up ends at the floored product, at least 1 higher, or at the destination (R134). -/
theorem portaStep_up {c d : Nat} (h : c < d) (r : Nat) : portaStep c d r =
    (min d (max (c * (256 + r) / 256) (c + 1)), decide (d ≤ max (c * (256 + r) / 256) (c + 1))) := by
  have rises : c ≤ c * (256 + r) / 256 := by
    rw [Nat.le_div_iff_mul_le (by decide)]
    exact Nat.mul_le_mul_left c (Nat.le_add_right 256 r)
  have forced : (if c * (256 + r) / 256 = c then c + 1 else c * (256 + r) / 256) =
      max (c * (256 + r) / 256) (c + 1) := by
    split <;> omega
  simp only [portaStep, Nat.shiftRight_eq_div_pow, Nat.reducePow, if_neg h.asymm, if_pos h, forced]
  split
  · next ha => rw [min_eq_left ha, decide_eq_true ha]
  · next ha => rw [min_eq_right (by omega), decide_eq_false ha]

/-- The floored product at a rate above 0 is below the period. -/
theorem mul_sub_div_lt {c r : Nat} (hc : 0 < c) (hr : 0 < r) : c * (256 - r) / 256 < c := by
  rw [Nat.div_lt_iff_lt_mul (by decide)]
  exact Nat.mul_lt_mul_of_pos_left (by omega) hc

theorem Voice.portaStage_armed {x : Voice} {p : Nat} {arrived : Bool} (h : x.portaRate ≠ 0)
    (hp : portaStep x.curPeriod.toNat x.destPeriod.toNat x.portaRate.toNat = (p, arrived)) :
    x.portaStage = { x with
      curPeriod := BitVec.ofNat 16 p, portaRate := if arrived then 0 else x.portaRate } := by
  rw [portaStage, if_neg h, hp]

/-- Settles O26, by the side of the destination the period is on and whether the step reaches it. -/
theorem portamentoStageMultipliesTowardDestination :
    Obligations.PortamentoStageMultipliesTowardDestination := by
  intro x c d r down up
  have arrive (hr : r ≠ 0) (hp : portaStep c d r = (d, true)) :
      x.portaStage = { x with curPeriod := x.destPeriod, portaRate := 0 } := by
    rw [Voice.portaStage_armed (ne_zero_of_toNat_ne_zero hr) hp, if_pos rfl, BitVec.ofNat_toNat,
      BitVec.setWidth_eq]
  refine ⟨fun hr => Voice.portaStage_idle (BitVec.eq_of_toNat_eq hr), fun hr ha => ?_,
    fun hr hlt hd => ⟨?_, mul_sub_div_lt (by omega) (by omega)⟩, fun hr hlt hu => ?_⟩
  · rcases ha with hcd | ⟨hlt, hd⟩ | ⟨hlt, hu⟩
    · exact arrive hr (hcd ▸ portaStep_at c r)
    · exact arrive hr (by rw [portaStep_down hlt, max_eq_left hd, decide_eq_true hd])
    · exact arrive hr (by rw [portaStep_up hlt, min_eq_left hu, decide_eq_true hu])
  · have step : portaStep c d r = (down, false) := by
      rw [portaStep_down hlt, max_eq_right hd.le, decide_eq_false (Nat.not_le.2 hd)]
    rw [Voice.portaStage_armed (ne_zero_of_toNat_ne_zero hr) step]
    rfl
  · have step : portaStep c d r = (up, false) := by
      rw [portaStep_up hlt, min_eq_right hu.le, decide_eq_false (Nat.not_le.2 hu)]
    rw [Voice.portaStage_armed (ne_zero_of_toNat_ne_zero hr) step]
    rfl

/-! ## Envelope -/

/-- A target within one step is reached (R136). -/
theorem envStep_arrive {cv t r : Nat} (h : cv ≤ t + r) (h' : t ≤ cv + r) :
    envStep cv t r = ((t : Int), true) := by
  rw [envStep]
  split
  · exact if_pos (by omega)
  · split
    · exact if_pos (by omega)
    · rfl

theorem envStep_down {cv t r : Nat} (h : t + r < cv) :
    envStep cv t r = (((cv - r : Nat) : Int), false) := by
  rw [envStep, if_pos (by omega)]
  dsimp only
  rw [if_neg (by omega), Int.ofNat_sub (by omega)]

theorem envStep_up {cv t r : Nat} (h : cv + r < t) :
    envStep cv t r = (((cv + r : Nat) : Int), false) := by
  rw [envStep, if_neg (by omega), if_pos (by omega)]
  dsimp only
  rw [if_neg (by omega), Int.natCast_add]

theorem Voice.envStage_wait {x : Voice} (h : x.envRate ≠ 0) (hc : 1 < x.envCount.toNat) :
    x.envStage = { x with envCount := x.envCount - 1 } := by
  rw [envStage, if_neg h, countdown_wait hc]
  rfl

theorem Voice.envStage_fire {x : Voice} {u : Nat} {arrived : Bool} (h : x.envRate ≠ 0)
    (hc : x.envCount.toNat ≤ 1)
    (hu : envStep x.curVol.toNat x.envTarget.toNat x.envRate.toNat = ((u : Int), arrived)) :
    x.envStage = { x with
      curVol := BitVec.ofNat 8 u
      envRate := if arrived then 0 else x.envRate
      envCount := if arrived then 0 else x.envReset } := by
  rw [envStage, if_neg h, countdown_fire hc, hu]
  simp only [if_true, trunc, BitVec.ofInt_natCast]

/-- Settles O27: the countdown waits, or it fires and the target is within one step, below or above. -/
theorem envelopeStageRampsLinearly : Obligations.EnvelopeStageRampsLinearly := by
  intro x cv t r
  refine ⟨fun hr => Voice.envStage_idle (BitVec.eq_of_toNat_eq hr),
    fun hr => Voice.envStage_wait (ne_zero_of_toNat_ne_zero hr), fun hr hc h h' => ?_,
    fun hr hc h => Voice.envStage_fire (ne_zero_of_toNat_ne_zero hr) hc (envStep_down h),
    fun hr hc h => Voice.envStage_fire (ne_zero_of_toNat_ne_zero hr) hc (envStep_up h)⟩
  rw [Voice.envStage_fire (ne_zero_of_toNat_ne_zero hr) hc (envStep_arrive h h'), BitVec.ofNat_toNat,
    BitVec.setWidth_eq]
  rfl

/-! ## The add-begin oscillator -/

theorem Voice.aboStage_wait {x : Voice} (h : x.aboReset ≠ 0) (hc : 1 < x.aboCount.toNat) :
    x.aboStage false = { x with aboCount := x.aboCount - 1 } := by
  rw [aboStage, if_neg (by simpa using h), countdown_wait hc]
  rfl

/-- The delta moves both starts and is negated (R137). -/
theorem Voice.aboStage_fire {x : Voice} (h : x.aboReset ≠ 0) (hc : x.aboCount.toNat ≤ 1) :
    x.aboStage false = { x with
      curAddr := x.curAddr + x.aboDelta.signExtend 24
      saveAddr := x.curAddr + x.aboDelta.signExtend 24
      aboDelta := -x.aboDelta, aboCount := x.aboReset } := by
  rw [aboStage, if_neg (by simpa using h), countdown_fire hc, addSigned_eq, negate_eq]
  rfl

/-- Settles O28, by whether the stage runs and whether its countdown fires. -/
theorem addBeginStageAddsAndNegatesWhenFired : Obligations.AddBeginStageAddsAndNegatesWhenFired := by
  refine fun x b => ⟨Voice.aboStage_idle, ?_, ?_⟩
  · rintro h rfl hc
    exact Voice.aboStage_wait h hc
  · rintro h rfl hc
    exact Voice.aboStage_fire h hc

/-! ## The master fade -/

theorem Globals.fadeStage_wait {g : Globals} (h : g.fadeSlope ≠ 0) (hc : 1 < g.fadeCount.toNat) :
    g.fadeStage = { g with fadeCount := g.fadeCount - 1 } := by
  rw [fadeStage, if_neg h, countdown_wait hc]
  rfl

theorem Globals.fadeStage_meet {g : Globals} (h : g.fadeSlope ≠ 0) (hc : g.fadeCount.toNat ≤ 1)
    (ht : g.masterVol + g.fadeSlope = g.fadeTarget) :
    g.fadeStage = { g with masterVol := g.fadeTarget, fadeSlope := 0, fadeCount := 0 } := by
  rw [fadeStage, if_neg h, countdown_fire hc, addSigned_same_width, ht]
  simp only [if_true]

theorem Globals.fadeStage_move {g : Globals} (h : g.fadeSlope ≠ 0) (hc : g.fadeCount.toNat ≤ 1)
    (ht : g.masterVol + g.fadeSlope ≠ g.fadeTarget) :
    g.fadeStage = { g with masterVol := g.masterVol + g.fadeSlope, fadeCount := g.fadeReset } := by
  rw [fadeStage, if_neg h, countdown_fire hc, addSigned_same_width]
  simp only [if_true, if_neg ht]

/-- Settles O29: the four cases of the fade stage. -/
theorem fadeStageStepsMasterVolume : Obligations.FadeStageStepsMasterVolume :=
  fun _ => ⟨Globals.fadeStage_idle, Globals.fadeStage_wait, Globals.fadeStage_meet,
    Globals.fadeStage_move⟩

/-! ## The latch -/

/-- R5 is what keeps the delta of every period inside its register (R141). -/
theorem periodToDelta_lt {p : Params} {nv : Nat} (h : p.Legal nv) (period : Nat) :
    periodToDelta p period < 2 ^ 32 := by
  rw [periodToDelta]
  split
  · decide
  · next hp =>
    have hrate : 0 < p.outRate := h.rate
    have hbound : p.clockHz * 16384 < 2 ^ 32 * p.outRate := h.delta
    rw [Nat.div_lt_iff_lt_mul (Nat.mul_pos (Nat.pos_of_ne_zero hp) hrate)]
    exact hbound.trans_le (Nat.mul_le_mul_left _ (Nat.le_mul_of_pos_left _ (Nat.pos_of_ne_zero hp)))

/-- Settles O30: the latched delta is `p2d` of the period, which R5 keeps in range. -/
theorem latchTransfersPitchAndVolume : Obligations.LatchTransfersPitchAndVolume := by
  intro p nv x h
  have fits : (x.latch p).delta.toNat = periodToDelta p x.curPeriod.toNat := by
    rw [Voice.latch_delta, BitVec.toNat_ofNat, Nat.mod_eq_of_lt (periodToDelta_lt h _)]
  refine ⟨(x.latch p).delta, fun hz => ?_, fun hz => ?_, rfl⟩
  · rw [fits, periodToDelta, if_pos hz]
  · rw [fits, periodToDelta, if_neg hz]

/-- A voice whose delta and volume are latched already stays as it is (R142). -/
theorem Voice.latch_self {p : Params} {x : Voice} (hv : x.hwVol = x.curVol)
    (hd : x.delta = BitVec.ofNat 32 (periodToDelta p x.curPeriod.toNat)) : x.latch p = x :=
  congrArg₂ (fun d u => { x with delta := d, hwVol := u }) hd.symm hv.symm

/-! ## One TICK -/

/-- What one TICK does to a voice: its four stages and the latch (R130). -/
def Voice.tick (p : Params) (noAddBeg : Bool) (x : Voice) : Voice := (x.effects noAddBeg).latch p

theorem exec_tick (s : State) : exec .tick s = .next { s with
    voices := s.voices.map (Voice.tick s.params s.glob.noAddBeg)
    glob := s.glob.fadeStage
    response := 0, out := [] } := by
  have voices : (s.voices.map (Voice.effects s.glob.noAddBeg)).map (Voice.latch s.params) =
      s.voices.map (Voice.tick s.params s.glob.noAddBeg) := List.map_map
  rw [← voices]
  rfl

/-- Settles O24: TICK ignores its operand bits, and its stages and latch make one map. -/
theorem tickRunsThePipeline : Obligations.TickRunsThePipeline :=
  fun s _ => ⟨decode_packWord_global .., exec_tick s⟩

/-- Settles O31: stages that are not armed are the identity, and so is a latch of what is latched. -/
theorem tickWithNothingArmedIsIdempotent : Obligations.TickWithNothingArmedIsIdempotent := by
  intro s idle hf
  have latchOnly : exec .tick s = .next { s with
      voices := s.voices.map (Voice.latch s.params), response := 0, out := [] } := by
    have voices : s.voices.map (Voice.tick s.params s.glob.noAddBeg) =
        s.voices.map (Voice.latch s.params) := by
      refine List.map_congr_left fun x hx => ?_
      obtain ⟨hv, hp, he, ha⟩ := idle x hx
      rw [Voice.tick, Voice.effects_idle hv hp he ha]
    rw [exec_tick, voices, Globals.fadeStage_idle hf]
  refine ⟨latchOnly, fun latched => ?_⟩
  have voices : s.voices.map (Voice.latch s.params) = s.voices := by
    refine (List.map_congr_left fun x hx => ?_).trans (List.map_id _)
    obtain ⟨hv, hd⟩ := latched x hx
    exact Voice.latch_self hv hd
  rw [latchOnly, voices]

end Sys2Proof.Machine
end

section
/-! PROOFS. The registers the mixer reads (10_state.md, the table after R14; 43_tick.md R140): a reading
of the voices that no command rewrites is the same after the command. -/

namespace Sys2Proof.Machine

/-- `f` reads the same before and after every voice-class command. -/
def KeptByCommands {α : Type} (f : Voice → α) : Prop := ∀ b i x, f (voiceUpdate b i x) = f x

theorem map_modify_of_kept {α : Type} {f : Voice → α} {g : Voice → Voice} (h : ∀ x, f (g x) = f x)
    (vs : List Voice) (k : Nat) : (vs.modify k g).map f = vs.map f := by
  refine List.ext_getElem? fun j => ?_
  rw [List.getElem?_map, List.getElem?_map, List.getElem?_modify]
  cases vs[j]? with
  | none => rfl
  | some x => by_cases hk : k = j <;> simp [hk, h]

/-- A command other than RESET keeps a reading of the voices that its own case keeps: the voice-class
commands', TICK's or RENDER's. -/
theorem exec_keeps_reading {α : Type} {f : Voice → α} {i : Instr} {s t : State}
    (h : exec i s = .next t) (hr : i ≠ .reset) (hf : KeptByCommands f)
    (tick : i = .tick → ∀ p b x, f (Voice.latch p (Voice.effects b x)) = f x)
    (render : ∀ n, i = .render n → ∀ p m g x, f (Voice.render p m g n.toNat x).1 = f x) :
    t.voices.map f = s.voices.map f := by
  cases exec_executes h with
  | voice r hv => exact map_modify_of_kept (hf _ _) _ _
  | nop | setmvol | fade | renderNone | rdglob | setcfg => rfl
  | tick =>
    rw [State.respond_voices, List.map_map, List.map_map]
    exact List.map_congr_left fun x _ => tick rfl ..
  | render n o =>
    rw [List.map_map]
    exact List.map_congr_left fun x _ => render n rfl ..
  | reset => exact absurd rfl hr

/-- No voice-class command writes a register of the mixer's side. -/
theorem keptByCommands_mixer :
    KeptByCommands fun x => (x.actAddr, x.actLen, x.pos, x.delta, x.hwVol) := by
  intro b i x
  cases i with
  | addbeg | oscbeg => cases b <;> rfl
  | loopwait v n =>
    rw [voiceUpdate]
    split <;> rfl
  | _ => rfl

/-- Settles O50: RENDER's frame has no DELTA or HW_VOL, and TICK's stages and latch leave the active
window and the position. -/
theorem mixerRegistersChangeOnlyInTickAndRender :
    Obligations.MixerRegistersChangeOnlyInTickAndRender := by
  intro i s t h hr
  refine ⟨fun ht => exec_keeps_reading h hr (fun b j x => ?_) (fun e => absurd e ht)
    fun n _ p m g x => ?_, fun hn => exec_keeps_reading h hr (fun b j x => ?_)
    (fun _ p b x => ?_) fun n e => absurd e (hn n)⟩
  · exact congrArg (fun r => r.2.2.2) (keptByCommands_mixer b j x)
  · rw [Voice.render_frame p m g n.toNat x]
  · exact congrArg (fun r => (r.1, r.2.1, r.2.2.1)) (keptByCommands_mixer b j x)
  · simp

end Sys2Proof.Machine
end

section
/-! PROOFS. Runs of TICK: a fact that holds of a voice or of the globals after `k` ticks is proved by one
step from `k` to `k + 1`, and a countdown that reloads its period is the remainder of the ticks. -/

namespace Sys2Proof.Machine

/-! ## Runs -/

theorem runCommands_cons {i : Instr} {s t : State} (h : exec i s = .next t) (is : List Instr) :
    runCommands (i :: is) s = runCommands is t := by
  rw [runCommands, h]

/-- A run of TICKs is the iterate of one tick on each voice and of the fade (R130, R131). -/
theorem runCommands_ticks (k : Nat) (s : State) :
    ∃ t, runCommands (List.replicate k .tick) s = .next t ∧
      t.voices = s.voices.map (Voice.tick s.params s.glob.noAddBeg)^[k] ∧
      t.glob = Globals.fadeStage^[k] s.glob := by
  induction k generalizing s with
  | zero => exact ⟨s, rfl, (List.map_id _).symm, rfl⟩
  | succ k ih =>
    rw [List.replicate_succ, runCommands_cons (exec_tick s)]
    obtain ⟨t, run, voices, glob⟩ := ih { s with
      voices := s.voices.map (Voice.tick s.params s.glob.noAddBeg)
      glob := s.glob.fadeStage, response := 0, out := [] }
    refine ⟨t, run, ?_, glob⟩
    rw [voices, Globals.fadeStage_noAddBeg, List.map_map, Function.iterate_succ]

theorem iterate_induction {α : Type} {f : α → α} {P : Nat → α → Prop} {x : α} (h0 : P 0 x)
    (step : ∀ k y, P k y → P (k + 1) (f y)) (k : Nat) : P k (f^[k] x) := by
  induction k with
  | zero => exact h0
  | succ k ih =>
    rw [Function.iterate_succ_apply']
    exact step k _ ih

/-- A fact of one voice that each tick carries on holds of it after `k` ticks. -/
theorem voice_after_ticks {P : Nat → Voice → Prop} {s : State} {v : Nat} {x : Voice}
    (hx : s.voices[v]? = some x) (h0 : P 0 x)
    (step : ∀ k y, P k y → P (k + 1) (y.tick s.params s.glob.noAddBeg)) (k : Nat) :
    ∃ t y, runCommands (List.replicate k .tick) s = .next t ∧ t.voices[v]? = some y ∧ P k y := by
  obtain ⟨t, run, voices, -⟩ := runCommands_ticks k s
  exact ⟨t, _, run, by rw [voices, List.getElem?_map, hx]; rfl, iterate_induction h0 step k⟩

/-- The same after a command that starts an effect on the voice. -/
theorem voice_after_start_and_ticks {P : Nat → Voice → Prop} {s : State} {v : VoiceSel} {x : Voice}
    {i : Instr} {f : Voice → Voice} (hi : exec i s = onVoice v f s)
    (hx : s.voices[v.toNat]? = some x) (h0 : P 0 (f x))
    (step : ∀ k y, P k y → P (k + 1) (y.tick s.params s.glob.noAddBeg)) (k : Nat) :
    ∃ t y, runCommands (i :: List.replicate k .tick) s = .next t ∧
      t.voices[v.toNat]? = some y ∧ P k y := by
  rw [runCommands_cons (hi.trans (onVoice_present hx))]
  exact voice_after_ticks
    (s := { s with voices := s.voices.set v.toNat (f x), response := 0, out := [] })
    (List.getElem?_set_self (List.getElem?_eq_some_iff.1 hx).1) h0 step k

/-! ## Countdowns -/

/-- The next of the ticks counted in laps of `n`: it ends a lap, or it goes on in the same one. -/
theorem succ_in_lap {n : Nat} (hn : 0 < n) (k : Nat) :
    (k % n + 1 = n ∧ (k + 1) % n = 0 ∧ (k + 1) / n = k / n + 1) ∨
    (k % n + 1 < n ∧ (k + 1) % n = k % n + 1 ∧ (k + 1) / n = k / n) := by
  have hk := Nat.mod_add_div k n
  rcases Nat.lt_or_eq_of_le (Nat.succ_le_of_lt (Nat.mod_lt k hn)) with hlt | heq
  · have next := (Nat.div_mod_unique (a := k + 1) (d := k / n) hn).2 ⟨by omega, hlt⟩
    exact .inr ⟨hlt, next.2, next.1⟩
  · have next := (Nat.div_mod_unique (a := k + 1) (d := k / n + 1) hn).2
      ⟨by rw [Nat.mul_succ]; omega, hn⟩
    exact .inl ⟨heq, next.2, next.1⟩

/-- Laps are odd and even in turn. -/
theorem succ_odd_iff (q : Nat) : (q + 1) % 2 = 1 ↔ ¬ q % 2 = 1 := by omega

/-- A countdown with reload `n`, and the tick after `k` ticks (R8): it fires when the tick ends a lap, and
else goes down. Either way the new count, the reload or one less, is what the tick leaves of its lap. A
count of 0 acts as one of 1. -/
theorem countdown_in_lap {c n : Byte} {k : Nat} (hn : n ≠ 0)
    (hc : max 1 c.toNat = n.toNat - k % n.toNat) :
    (c.toNat ≤ 1 ∧ n.toNat = n.toNat - (k + 1) % n.toNat ∧
      (k + 1) / n.toNat = k / n.toNat + 1) ∨
    (1 < c.toNat ∧ (c - 1).toNat = n.toNat - (k + 1) % n.toNat ∧
      (k + 1) / n.toNat = k / n.toNat) := by
  rcases succ_in_lap (BitVec.toNat_pos_of_ne_zero hn) k with ⟨hm, hmod, hdiv⟩ | ⟨hm, hmod, hdiv⟩
  · exact .inl ⟨by omega, by omega, hdiv⟩
  · refine .inr ⟨by omega, ?_, hdiv⟩
    rw [hmod]
    bv_omega

/-! ## The add-begin oscillator -/

/-- Only the most negative value has a negation that does not extend to the extension's negation. -/
theorem signExtend_neg {m : Nat} (n : Nat) {d : BitVec m} (h : d ≠ BitVec.intMin m) :
    (-d).signExtend n = -d.signExtend n := by
  simp only [BitVec.signExtend, BitVec.toInt_neg_of_ne_intMin h, BitVec.ofInt_neg]

/-- A voice `k` ticks after an OSCBEG of period `n` and delta `d` at the start `a` (R138). -/
structure Voice.Oscillating (a : Addr) (n : Byte) (d : Half) (k : Nat) (x : Voice) : Prop where
  reset : x.aboReset = n
  delta : x.aboDelta = if k / n.toNat % 2 = 1 then -d else d
  count : x.aboCount.toNat = n.toNat - k % n.toNat
  saved : n.toNat ≤ k → x.saveAddr = x.curAddr
  start : d.toInt ≠ -32768 → x.curAddr = if k / n.toNat % 2 = 1 then a + d.signExtend 24 else a

/-- The oscillator flips on the tick that ends a lap of `n`, and keeps its start on the others. -/
theorem Voice.Oscillating.aboStage {a : Addr} {n : Byte} {d : Half} {k : Nat} {x : Voice}
    (hn : n ≠ 0) (h : x.Oscillating a n d k) : (x.aboStage false).Oscillating a n d (k + 1) := by
  obtain ⟨reset, delta, count, saved, start⟩ := h
  have armed : x.aboReset ≠ 0 := reset ▸ hn
  have left := Nat.mod_lt k (BitVec.toNat_pos_of_ne_zero hn)
  have running : max 1 x.aboCount.toNat = n.toNat - k % n.toNat := by omega
  rcases countdown_in_lap hn running with ⟨hc, hcount, hlap⟩ | ⟨hc, hcount, hlap⟩
  · rw [Voice.aboStage_fire armed hc]
    refine ⟨reset, ?_, reset ▸ hcount, fun _ => rfl, fun hd => ?_⟩
    · simp only [delta, hlap, succ_odd_iff]
      split <;> simp
    · have hmin : d ≠ BitVec.intMin 16 := fun e => hd (by rw [e]; decide)
      simp only [delta, start hd, hlap, succ_odd_iff]
      split
      · rw [signExtend_neg 24 hmin]
        simp
      · simp
  · rw [Voice.aboStage_wait armed hc]
    refine ⟨reset, by rw [hlap]; exact delta, hcount, fun hk => saved ?_, by rw [hlap]; exact start⟩
    have lapped := Nat.div_pos hk (BitVec.toNat_pos_of_ne_zero hn)
    exact (Nat.div_pos_iff.1 (hlap ▸ lapped)).2

theorem Voice.Oscillating.latch {a : Addr} {n : Byte} {d : Half} {k : Nat} {x : Voice}
    (h : x.Oscillating a n d k) (p : Params) : (x.latch p).Oscillating a n d k :=
  ⟨h.reset, h.delta, h.count, h.saved, h.start⟩

/-- Only the add-begin stage touches the oscillator in a tick. -/
theorem Voice.Oscillating.tick {a : Addr} {n : Byte} {d : Half} {k : Nat} {x : Voice}
    (hn : n ≠ 0) (h : x.Oscillating a n d k) (p : Params) :
    (x.tick p false).Oscillating a n d (k + 1) := by
  have before : x.vibratoStage.portaStage.envStage.Oscillating a n d k := by
    obtain ⟨reset, delta, count, saved, start⟩ := h
    constructor <;> simpa
  exact (before.aboStage hn).latch p

/-- Settles O34: OSCBEG starts the oscillation, and each tick carries it on. -/
theorem addBeginOscillatorAlternatesEveryPeriod :
    Obligations.AddBeginOscillatorAlternatesEveryPeriod := by
  intro s v x n d k hx hb hn
  have started : Voice.Oscillating x.curAddr n d 0
      { x with aboDelta := d, aboReset := n, aboCount := n } := by
    have pos := BitVec.toNat_pos_of_ne_zero hn
    exact ⟨rfl, by simp, by simp, fun h => absurd h (by omega), by simp⟩
  obtain ⟨t, y, run, hy, osc⟩ := voice_after_start_and_ticks (i := .oscbeg v n d)
    (P := Voice.Oscillating x.curAddr n d) rfl hx (by simpa [hb] using started)
    (fun k y h => hb ▸ h.tick hn s.params) k
  exact ⟨t, y, run, hy, osc.reset, osc.delta, osc.count, osc.saved, osc.start⟩

end Sys2Proof.Machine
end

section
/-! PROOFS. Vibrato after `k` ticks (43_tick.md R133): the offset is the width times a zigzag of laps of
the period, entered `P - H` ticks after its lowest point. -/

namespace Sys2Proof.Machine

/-! ## The zigzag -/

/-- Up from 0 to `p` and down again, one unit a tick, `p` ticks each way. -/
def zigzag (p j : Nat) : Int := if j / p % 2 = 1 then (p : Int) - (j % p : Nat) else (j % p : Nat)

theorem zigzag_mem {p : Nat} (hp : 0 < p) (j : Nat) : 0 ≤ zigzag p j ∧ zigzag p j ≤ p := by
  have := Nat.mod_lt j hp
  unfold zigzag
  split <;> omega

/-- The zigzag goes down in its odd laps and up in the others. -/
theorem zigzag_succ {p : Nat} (hp : 0 < p) (j : Nat) :
    zigzag p (j + 1) = zigzag p j + if j / p % 2 = 1 then -1 else 1 := by
  unfold zigzag
  rcases succ_in_lap hp j with ⟨hm, hmod, hdiv⟩ | ⟨-, hmod, hdiv⟩
  · rw [hmod, hdiv]
    simp only [succ_odd_iff]
    split <;> simp <;> omega
  · rw [hmod, hdiv]
    split <;> omega

/-- The ticks of a full lap that a VIBRATO of period `p` skips: its first leg is `max 1 (p / 2)` long
(R133). -/
def lead (p : Nat) : Nat := p - max 1 (p / 2)

theorem lead_add {p : Nat} (hp : 0 < p) : lead p + max 1 (p / 2) = p := by
  unfold lead
  omega

/-- The triangle table of R133 is the zigzag, read from the lead on. -/
theorem triangle_eq_zigzag {p : Nat} (hp : 0 < p) (k : Nat) :
    triangle p k = zigzag p (k + lead p) - lead p := by
  have hlead := lead_add hp
  unfold triangle
  simp only [max_eq_right (Nat.succ_le_of_lt hp)]
  generalize max 1 (p / 2) = h at hlead ⊢
  split
  · next hk =>
    rcases Nat.lt_or_eq_of_le hk with hlt | rfl
    · have first : k + lead p < p := by omega
      rw [zigzag, Nat.div_eq_of_lt first, Nat.mod_eq_of_lt first]
      simp
    · rw [Nat.add_comm, hlead, zigzag, Nat.div_self hp, Nat.mod_self]
      simp
      omega
  · next hk =>
    obtain ⟨a, rfl⟩ : ∃ a, k = a + h := ⟨k - h, by omega⟩
    have lap : a + h + lead p = a + p := by omega
    rw [lap, Nat.add_sub_cancel, zigzag, Nat.add_div_right _ hp, Nat.add_mod_right, Nat.mul_comm 2,
      Nat.mod_mul]
    have hmod := Nat.mod_lt a hp
    rcases Nat.mod_two_eq_zero_or_one (a / p) with he | he
    · have down : (a / p + 1) % 2 = 1 := by omega
      rw [he, if_pos down]
      split <;> omega
    · have up : ¬ (a / p + 1) % 2 = 1 := by omega
      rw [he, if_neg up]
      split <;> omega

/-! ## The voice -/

/-- A voice under a vibrato of period `p` and width `w`, at the point `j` of the zigzag. -/
structure Voice.Vibrating (p w : Byte) (j : Nat) (x : Voice) : Prop where
  period : x.vibPeriod = p
  phase : max 1 x.vibPhase.toNat = p.toNat - j % p.toNat
  width : x.vibWidth.toInt = w.toInt * if j / p.toNat % 2 = 1 then -1 else 1
  offset : x.vibOffset.toInt = w.toInt * (zigzag p.toNat j - lead p.toNat)

/-- No offset on the triangle leaves `128 * |W|` (R133). -/
theorem abs_mul_zigzag_le {p : Byte} (hp : p ≠ 0) (w : Int) (j : Nat) :
    |w * (zigzag p.toNat j - lead p.toNat)| ≤ 128 * |w| := by
  have hpos := BitVec.toNat_pos_of_ne_zero hp
  have height : |zigzag p.toNat j - lead p.toNat| ≤ 128 := by
    have hz := zigzag_mem hpos j
    have hlead := lead_add hpos
    have := p.isLt
    rw [abs_le]
    omega
  rw [abs_mul, mul_comm]
  exact mul_le_mul_of_nonneg_right height (abs_nonneg w)

/-- The vibrato stage moves one point on along the zigzag; a width of -128 alone has no negation. -/
theorem Voice.Vibrating.vibratoStage {p w : Byte} {j : Nat} {x : Voice} (hp : p ≠ 0)
    (hw : w.toInt ≠ -128) (h : x.Vibrating p w j) : x.vibratoStage.Vibrating p w (j + 1) := by
  obtain ⟨period, phase, width, offset⟩ := h
  have hpos := BitVec.toNat_pos_of_ne_zero hp
  have hwidth : |w.toInt| ≤ 127 := by
    have := w.le_toInt
    have := w.toInt_lt
    rw [abs_le]
    omega
  have moved : (x.vibOffset + x.vibWidth.signExtend 16).toInt =
      w.toInt * (zigzag p.toNat (j + 1) - lead p.toNat) := by
    have sum : x.vibOffset.toInt + x.vibWidth.toInt =
        w.toInt * (zigzag p.toNat (j + 1) - lead p.toNat) := by
      rw [offset, width, zigzag_succ hpos]
      ring
    have bound := abs_le.1 (abs_mul_zigzag_le hp w.toInt (j + 1))
    rw [BitVec.toInt_add, BitVec.toInt_signExtend_of_le (by decide), sum,
      Int.bmod_eq_of_le (by omega) (by omega)]
  have left := Nat.mod_lt (j + 1) hpos
  rw [Voice.vibratoStage_armed (period ▸ hp), period]
  rcases countdown_in_lap hp phase with ⟨hc, hcount, hlap⟩ | ⟨hc, hcount, hlap⟩
  · rw [countdown_fire hc]
    refine ⟨rfl, ?_, ?_, moved⟩
    · dsimp only
      omega
    · have signed : x.vibWidth ≠ BitVec.intMin 8 := by
        intro e
        have hmin : x.vibWidth.toInt = -128 := by rw [e]; decide
        have := abs_le.1 hwidth
        split at width <;> omega
      simp only [if_true, BitVec.toInt_neg_of_ne_intMin signed, width, hlap, succ_odd_iff]
      split <;> simp
  · rw [countdown_wait hc]
    refine ⟨rfl, ?_, by rw [hlap]; exact width, moved⟩
    dsimp only
    omega

/-- The other stages and the latch leave the vibrato alone. -/
theorem Voice.Vibrating.tick {p w : Byte} {j : Nat} {x : Voice} (hp : p ≠ 0) (hw : w.toInt ≠ -128)
    (h : x.Vibrating p w j) (q : Params) (b : Bool) : (x.tick q b).Vibrating p w (j + 1) := by
  obtain ⟨period, phase, width, offset⟩ := h.vibratoStage hp hw
  exact ⟨by simpa [Voice.tick, Voice.effects] using period,
    by simpa [Voice.tick, Voice.effects] using phase,
    by simpa [Voice.tick, Voice.effects] using width,
    by simpa [Voice.tick, Voice.effects] using offset⟩

/-- Settles O33: VIBRATO enters the zigzag at its lead, and each tick moves one point on. -/
theorem vibratoOffsetIsTheTriangleTable : Obligations.VibratoOffsetIsTheTriangleTable := by
  intro s v x p w k hx hp hw
  have hpos := BitVec.toNat_pos_of_ne_zero hp
  have started : Voice.Vibrating p w (0 + lead p.toNat)
      { x with vibPeriod := p, vibPhase := p >>> 1, vibWidth := w, vibOffset := 0 } := by
    have hlead := lead_add hpos
    have hlt : lead p.toNat < p.toNat := by omega
    have half : (p >>> 1).toNat = p.toNat / 2 := BitVec.toNat_ushiftRight ..
    rw [Nat.zero_add]
    refine ⟨rfl, ?_, ?_, ?_⟩
    · rw [Nat.mod_eq_of_lt hlt]
      dsimp only
      omega
    · simp [Nat.div_eq_of_lt hlt]
    · simp [zigzag, Nat.div_eq_of_lt hlt, Nat.mod_eq_of_lt hlt]
  obtain ⟨t, y, run, hy, vib⟩ := voice_after_start_and_ticks (i := .vibrato v p w)
    (P := fun k => Voice.Vibrating p w (k + lead p.toNat)) rfl hx started
    (fun k y h => Nat.add_right_comm k .. ▸ h.tick hp hw ..) k
  have offset := vib.offset
  refine ⟨t, y, run, hy, ?_, ?_⟩
  · rw [offset, triangle_eq_zigzag hpos]
  · rw [offset]
    exact abs_mul_zigzag_le hp ..

end Sys2Proof.Machine
end

section
/-! PROOFS. The master fade after `k` ticks (43_tick.md R139): one unit per lap of the speed, until the
target is met. -/

namespace Sys2Proof.Machine

/-- The globals `k` ticks after a FADE of speed `n` from the volume `m` to `t`, the target not yet met:
one unit has been moved for each full lap of `n` ticks. -/
structure Globals.Fading (m t n : Byte) (k : Nat) (g : Globals) : Prop where
  target : g.fadeTarget = t
  reset : g.fadeReset = n
  count : g.fadeCount.toNat = n.toNat - k % n.toNat
  course : (g.fadeSlope = -1 ∧ g.masterVol.toNat + k / n.toNat = m.toNat ∧
      t.toNat < g.masterVol.toNat) ∨
    (g.fadeSlope = 1 ∧ g.masterVol.toNat = m.toNat + k / n.toNat ∧ g.masterVol.toNat < t.toNat)

/-- The globals `k` ticks after that FADE, the target met. -/
structure Globals.Faded (m t n : Byte) (k : Nat) (g : Globals) : Prop where
  slope : g.fadeSlope = 0
  volume : g.masterVol = t
  lapped : max m.toNat t.toNat - min m.toNat t.toNat ≤ k / n.toNat

theorem Globals.Fading.laps_lt {m t n : Byte} {k : Nat} {g : Globals} (h : g.Fading m t n k) :
    k / n.toNat < max m.toNat t.toNat - min m.toNat t.toNat := by
  rcases h.course with ⟨-, hm, ht⟩ | ⟨-, hm, ht⟩ <;> omega

/-- The fade stage carries a fade on, or ends it on its target. -/
theorem Globals.Fading.fadeStage {m t n : Byte} {k : Nat} {g : Globals} (hn : n ≠ 0)
    (h : g.Fading m t n k) : g.fadeStage.Fading m t n (k + 1) ∨ g.fadeStage.Faded m t n (k + 1) := by
  obtain ⟨target, reset, count, course⟩ := h
  have left := Nat.mod_lt k (BitVec.toNat_pos_of_ne_zero hn)
  have running : max 1 g.fadeCount.toNat = n.toNat - k % n.toNat := by omega
  have slope : g.fadeSlope ≠ 0 := by
    rcases course with ⟨hs, -⟩ | ⟨hs, -⟩ <;> rw [hs] <;> decide
  rcases countdown_in_lap hn running with ⟨hc, hcount, hlap⟩ | ⟨hc, hcount, hlap⟩
  · have moved : (g.fadeSlope = -1 ∧
          (g.masterVol + g.fadeSlope).toNat + (k / n.toNat + 1) = m.toNat ∧
          t.toNat ≤ (g.masterVol + g.fadeSlope).toNat) ∨
        (g.fadeSlope = 1 ∧ (g.masterVol + g.fadeSlope).toNat = m.toNat + (k / n.toNat + 1) ∧
          (g.masterVol + g.fadeSlope).toNat ≤ t.toNat) := by
      rcases course with ⟨hs, hm, ht⟩ | ⟨hs, hm, ht⟩ <;> rw [hs]
      · exact .inl ⟨rfl, by bv_omega, by bv_omega⟩
      · exact .inr ⟨rfl, by bv_omega, by bv_omega⟩
    by_cases met : g.masterVol + g.fadeSlope = g.fadeTarget
    · rw [Globals.fadeStage_meet slope hc met]
      refine .inr ⟨rfl, target, ?_⟩
      rw [met, target] at moved
      rw [hlap]
      generalize k / n.toNat + 1 = q at moved ⊢
      omega
    · rw [Globals.fadeStage_move slope hc met]
      refine .inl ⟨target, reset, reset ▸ hcount, ?_⟩
      have short : (g.masterVol + g.fadeSlope).toNat ≠ t.toNat :=
        fun e => met ((BitVec.eq_of_toNat_eq e).trans target.symm)
      rw [hlap]
      exact moved.imp (fun ⟨hs, hm, ht⟩ => ⟨hs, hm, ht.lt_of_ne short.symm⟩)
        fun ⟨hs, hm, ht⟩ => ⟨hs, hm, ht.lt_of_ne short⟩
  · rw [Globals.fadeStage_wait slope hc]
    exact .inl ⟨target, reset, hcount, by rw [hlap]; exact course⟩

/-- A fade that has met its target stays there. -/
theorem Globals.Faded.fadeStage {m t n : Byte} {k : Nat} {g : Globals} (h : g.Faded m t n k) :
    g.fadeStage.Faded m t n (k + 1) := by
  rw [Globals.fadeStage_idle h.slope]
  exact ⟨h.slope, h.volume, h.lapped.trans (Nat.div_le_div_right (Nat.le_succ k))⟩

/-- FADE with a speed and another target starts the fade (R121). -/
theorem Globals.fading_startFade {g : Globals} {n t : Byte} (hn : n ≠ 0) (ht : g.masterVol ≠ t) :
    (g.startFade n t).Fading g.masterVol t n 0 := by
  have apart : t.toNat ≠ g.masterVol.toNat := fun e => ht (BitVec.eq_of_toNat_eq e.symm)
  rw [Globals.startFade_ramp hn apart]
  refine ⟨rfl, rfl, by simp, ?_⟩
  rcases apart.lt_or_gt with hlt | hlt
  · exact .inl ⟨if_pos hlt, by simp, hlt⟩
  · exact .inr ⟨if_neg hlt.asymm, by simp, hlt⟩

/-- Settles O35: while it fades the volume has moved by the laps and is short of the target; once faded
the laps are at least the distance. -/
theorem fadeMeetsItsTargetExactly : Obligations.FadeMeetsItsTargetExactly := by
  intro s n t k hn ht mv tg speed dist
  obtain ⟨u, run, -, glob⟩ := runCommands_ticks k ({ s with glob := s.glob.startFade n t }.respond 0)
  have course : u.glob.Fading s.glob.masterVol t n k ∨ u.glob.Faded s.glob.masterVol t n k := by
    rw [glob]
    exact iterate_induction (P := fun k g => Globals.Fading _ t n k g ∨ Globals.Faded _ t n k g)
      (.inl (Globals.fading_startFade hn ht))
      (fun k g h => h.elim (Globals.Fading.fadeStage hn) (fun h => .inr h.fadeStage)) k
  refine ⟨u, (runCommands_cons rfl _).trans run, ?_⟩
  have laps : speed * dist ≤ k ↔ dist ≤ k / speed := by
    rw [Nat.le_div_iff_mul_le (BitVec.toNat_pos_of_ne_zero hn), Nat.mul_comm]
  rcases course with fading | faded
  · have short : ¬ speed * dist ≤ k := fun h => Nat.not_le.2 fading.laps_lt (laps.1 h)
    rw [if_neg short]
    rcases fading.course with ⟨hs, hm, hlt⟩ | ⟨hs, hm, hlt⟩
    · have down : tg < mv := hlt.trans_le (Nat.le.intro hm)
      rw [if_pos down, hs]
      exact ⟨iff_of_false (by decide) short, Nat.eq_sub_of_add_eq hm⟩
    · have up : ¬ tg < mv := ((Nat.le.intro hm.symm).trans hlt.le).not_gt
      rw [if_neg up, hs]
      exact ⟨iff_of_false (by decide) short, hm⟩
  · have met : speed * dist ≤ k := laps.2 faded.lapped
    rw [if_pos met, faded.volume]
    exact ⟨iff_of_true faded.slope met, rfl⟩

end Sys2Proof.Machine
end

section
/-! PROOFS. Portamento over a run of ticks (43_tick.md R135): the period is the iterate of one step, which
comes strictly closer to the destination until it is there, and the rate is cleared on the arrival. -/

namespace Sys2Proof.Machine

/-! ## The sequence of periods -/

/-- The period one portamento step after the period `c`, toward `d` at rate `r` (R134). -/
def slide (d r c : Nat) : Nat := (portaStep c d r).1

theorem slide_at (d r : Nat) : slide d r d = d := congrArg Prod.fst (portaStep_at d r)

theorem slide_down {c d : Nat} (h : d < c) (r : Nat) : slide d r c = max d (c * (256 - r) / 256) :=
  congrArg Prod.fst (portaStep_down h r)

theorem slide_up {c d : Nat} (h : c < d) (r : Nat) :
    slide d r c = min d (max (c * (256 + r) / 256) (c + 1)) :=
  congrArg Prod.fst (portaStep_up h r)

/-- A slide stays between the period and the destination: `portaStep_between` under this name. -/
theorem slide_between (c d r : Nat) : min c d ≤ slide d r c ∧ slide d r c ≤ max c d :=
  portaStep_between c d r

/-- A step arrives exactly when it ends at the destination. -/
theorem portaStep_eq_slide (c d r : Nat) :
    portaStep c d r = (slide d r c, decide (slide d r c = d)) := by
  rcases Nat.lt_trichotomy c d with hlt | rfl | hlt
  · rw [portaStep_up hlt, slide_up hlt, Prod.mk.injEq, decide_eq_decide, min_eq_left_iff]
    exact ⟨rfl, Iff.rfl⟩
  · rw [portaStep_at, slide_at, decide_eq_true rfl]
  · rw [portaStep_down hlt, slide_down hlt, Prod.mk.injEq, decide_eq_decide, max_eq_left_iff]
    exact ⟨rfl, Iff.rfl⟩

theorem slide_lt_of_gt {c d r : Nat} (hr : 0 < r) (h : d < c) : slide d r c < c := by
  rw [slide_down h]
  exact max_lt h (mul_sub_div_lt (Nat.zero_lt_of_lt h) hr)

theorem lt_slide_of_lt {c d : Nat} (h : c < d) (r : Nat) : c < slide d r c := by
  rw [slide_up h]
  exact lt_min h (lt_max_of_lt_right (Nat.lt_succ_self c))

theorem le_iterate_slide {c d : Nat} (h : d ≤ c) (r k : Nat) : d ≤ (slide d r)^[k] c :=
  iterate_induction (P := fun _ c => d ≤ c) h
    (fun _ c hc => (min_eq_right hc).symm.le.trans (slide_between c d r).1) k

theorem iterate_slide_le {c d : Nat} (h : c ≤ d) (r k : Nat) : (slide d r)^[k] c ≤ d :=
  iterate_induction (P := fun _ c => c ≤ d) h
    (fun _ c hc => (slide_between c d r).2.trans (max_eq_right hc).le) k

/-- Every slide comes to its destination, by induction on the distance. -/
theorem exists_iterate_slide_eq {r : Nat} (hr : 0 < r) (d c : Nat) : ∃ k, (slide d r)^[k] c = d := by
  induction hm : max c d - min c d using Nat.strong_induction_on generalizing c with
  | _ m ih =>
    by_cases hcd : c = d
    · exact ⟨0, hcd⟩
    · have closer : max (slide d r c) d - min (slide d r c) d < m := by
        have between := slide_between c d r
        rcases Nat.lt_or_gt_of_ne hcd with hlt | hlt
        · have := lt_slide_of_lt hlt r
          omega
        · have := slide_lt_of_gt hr hlt
          omega
      obtain ⟨k, hk⟩ := ih _ closer _ rfl
      exact ⟨k + 1, hk⟩

/-- The slide from `c` is at `d` after `n` steps, and after none of the steps before. -/
structure FirstArrival (d r c n : Nat) : Prop where
  pos : 1 ≤ n
  arrived : (slide d r)^[n] c = d
  first : ∀ k, 0 < k → k < n → (slide d r)^[k] c ≠ d

theorem exists_firstArrival {r : Nat} (hr : 0 < r) (d c : Nat) : ∃ n, FirstArrival d r c n := by
  have arrives : ∃ k, (slide d r)^[k + 1] c = d := by
    obtain ⟨k, hk⟩ := exists_iterate_slide_eq hr d c
    exact ⟨k, by rw [Function.iterate_succ_apply', hk, slide_at]⟩
  refine ⟨Nat.find arrives + 1, Nat.le_add_left .., Nat.find_spec arrives, fun k hpos hk => ?_⟩
  obtain ⟨j, rfl⟩ := Nat.exists_eq_add_one.2 hpos
  exact Nat.find_min arrives (by omega)

theorem FirstArrival.iterate_eq_iff {d r c n : Nat} (h : FirstArrival d r c n) (hcd : c ≠ d) (k : Nat) :
    (slide d r)^[k] c = d ↔ n ≤ k := by
  refine ⟨fun hk => Nat.not_lt.1 fun hlt => ?_, fun hk => ?_⟩
  · rcases Nat.eq_zero_or_pos k with rfl | hpos
    · exact hcd hk
    · exact h.first k hpos hlt hk
  · obtain ⟨j, rfl⟩ := Nat.exists_eq_add_of_le' hk
    rw [Function.iterate_add_apply, h.arrived, Function.iterate_fixed (slide_at d r)]

theorem FirstArrival.falls {d r c n k : Nat} (h : FirstArrival d r c n) (hr : 0 < r) (hlt : d < c)
    (hk : k < n) : d < (slide d r)^[k] c ∧ (slide d r)^[k + 1] c < (slide d r)^[k] c := by
  have away : (slide d r)^[k] c ≠ d := fun e => Nat.not_le.2 hk ((h.iterate_eq_iff hlt.ne' k).1 e)
  have above : d < (slide d r)^[k] c := (le_iterate_slide hlt.le r k).lt_of_ne away.symm
  rw [Function.iterate_succ_apply']
  exact ⟨above, slide_lt_of_gt hr above⟩

theorem FirstArrival.rises {d r c n k : Nat} (h : FirstArrival d r c n) (hlt : c < d) (hk : k < n) :
    (slide d r)^[k] c < d ∧ (slide d r)^[k] c < (slide d r)^[k + 1] c := by
  have away : (slide d r)^[k] c ≠ d := fun e => Nat.not_le.2 hk ((h.iterate_eq_iff hlt.ne k).1 e)
  have below : (slide d r)^[k] c < d := (iterate_slide_le hlt.le r k).lt_of_ne away
  rw [Function.iterate_succ_apply']
  exact ⟨below, lt_slide_of_lt below r⟩

theorem FirstArrival.eq_one {d r n : Nat} (h : FirstArrival d r d n) : n = 1 :=
  h.pos.antisymm' (Nat.not_lt.1 fun hlt => h.first 1 Nat.one_pos hlt (slide_at d r))

/-! ## The descent -/

theorem descend_succ (r k c : Nat) : descend r (k + 1) c = descend r k c * (256 - r) / 256 := by
  induction k generalizing c with
  | zero => rfl
  | succ k ih => exact ih _

/-- Downward the slide is R135's `f`, cut off at the destination. -/
theorem iterate_slide_eq_max {c d : Nat} (h : d < c) (r k : Nat) :
    (slide d r)^[k] c = max d (descend r k c) := by
  induction k with
  | zero => exact (max_eq_right h.le).symm
  | succ k ih =>
    rw [Function.iterate_succ_apply', ih, descend_succ]
    rcases Nat.lt_or_ge d (descend r k c) with hlt | hle
    · rw [max_eq_right hlt.le, slide_down hlt]
    · have below : descend r k c * (256 - r) / 256 ≤ d := by
        refine (Nat.div_le_of_le_mul ?_).trans hle
        rw [Nat.mul_comm 256]
        exact Nat.mul_le_mul_left _ (Nat.sub_le 256 r)
      rw [max_eq_left hle, slide_at, max_eq_left below]

/-- Without the floors the descent is geometric (R135). -/
theorem descend_mul_pow_le (r k c : Nat) : descend r k c * 256 ^ k ≤ c * (256 - r) ^ k := by
  induction k with
  | zero => exact Nat.le_refl _
  | succ k ih =>
    calc descend r (k + 1) c * 256 ^ (k + 1)
        = descend r k c * (256 - r) / 256 * 256 * 256 ^ k := by rw [descend_succ]; ring
      _ ≤ descend r k c * (256 - r) * 256 ^ k := Nat.mul_le_mul_right _ (Nat.div_mul_le_self ..)
      _ = descend r k c * 256 ^ k * (256 - r) := by ring
      _ ≤ c * (256 - r) ^ k * (256 - r) := Nat.mul_le_mul_right _ ih
      _ = c * (256 - r) ^ (k + 1) := by ring

theorem FirstArrival.descend_le_iff {d r c n : Nat} (h : FirstArrival d r c n)
    (hlt : d < c) (k : Nat) : descend r k c ≤ d ↔ n ≤ k := by
  rw [← h.iterate_eq_iff hlt.ne', iterate_slide_eq_max hlt, max_eq_left_iff]

/-! ## The voice -/

/-- A voice after `k` of the `n` ticks of a slide from the period `c` toward `d` at rate `r`. -/
structure Voice.Sliding (c : Nat) (d : Half) (r : Byte) (n k : Nat) (x : Voice) : Prop where
  dest : x.destPeriod = d
  period : x.curPeriod.toNat = (slide d.toNat r.toNat)^[k] c
  rate : x.portaRate = if k < n then r else 0

/-- Vibrato leaves the period to an armed portamento (R132). -/
theorem Voice.vibratoStage_curPeriod {x : Voice} (h : x.portaRate ≠ 0) :
    x.vibratoStage.curPeriod = x.curPeriod := by
  by_cases hv : x.vibPeriod = 0
  · rw [Voice.vibratoStage_idle hv]
  · rw [Voice.vibratoStage_armed hv, if_neg h]

/-- A tick of an armed portamento is one slide, and its rate is cleared on the arrival. -/
theorem Voice.tick_slide {x : Voice} (h : x.portaRate ≠ 0) (p : Params) (b : Bool) :
    (x.tick p b).curPeriod.toNat =
      slide x.destPeriod.toNat x.portaRate.toNat x.curPeriod.toNat ∧
    (x.tick p b).portaRate =
      if slide x.destPeriod.toNat x.portaRate.toNat x.curPeriod.toNat = x.destPeriod.toNat then 0
      else x.portaRate := by
  have fits : slide x.destPeriod.toNat x.portaRate.toNat x.curPeriod.toNat < 2 ^ 16 :=
    (slide_between ..).2.trans_lt (max_lt x.curPeriod.isLt x.destPeriod.isLt)
  have armed : x.vibratoStage.portaRate ≠ 0 := by simpa using h
  have stage := Voice.portaStage_armed armed (portaStep_eq_slide ..)
  simp only [Voice.vibratoStage_curPeriod h, Voice.vibratoStage_destPeriod,
    Voice.vibratoStage_portaRate, decide_eq_true_eq] at stage
  simp only [Voice.tick, Voice.effects, Voice.latch_curPeriod, Voice.latch_portaRate,
    Voice.aboStage_curPeriod, Voice.aboStage_portaRate, Voice.envStage_curPeriod,
    Voice.envStage_portaRate, stage]
  exact ⟨by rw [BitVec.toNat_ofNat, Nat.mod_eq_of_lt fits], trivial⟩

theorem Voice.Sliding.tick {c : Nat} {d : Half} {r : Byte} {n k : Nat} {x : Voice} (hr : r ≠ 0)
    (hn : FirstArrival d.toNat r.toNat c n) (hk : k < n) (h : x.Sliding c d r n k) (p : Params)
    (b : Bool) : (x.tick p b).Sliding c d r n (k + 1) := by
  obtain ⟨dest, period, rate⟩ := h
  rw [if_pos hk] at rate
  have step := Voice.tick_slide (rate ▸ hr) p b
  rw [dest, rate, period, ← Function.iterate_succ_apply' (slide d.toNat r.toNat)] at step
  refine ⟨by simpa [Voice.tick] using dest, step.1, step.2.trans ?_⟩
  rcases Nat.lt_or_eq_of_le (Nat.succ_le_of_lt hk) with hlt | heq
  · rw [if_neg (hn.first _ k.succ_pos hlt), if_pos hlt]
  · subst heq
    rw [if_pos hn.arrived, if_neg (Nat.lt_irrefl _)]

/-- Settles O32: `n` is the first arrival of the slide, and the voice follows the slide up to it. -/
theorem portamentoConvergesWithoutOvershoot : Obligations.PortamentoConvergesWithoutOvershoot := by
  intro s v x hx hr c0 d r
  have hpos : 0 < r := BitVec.toNat_pos_of_ne_zero hr
  obtain ⟨n, hn⟩ := exists_firstArrival hpos d c0
  refine ⟨n, fun k => (slide d r)^[k] c0, hn.pos, rfl, hn.arrived, fun k hk => ?_,
    fun hlt => ⟨fun _ => hn.falls hpos hlt, hn.descend_le_iff hlt, fun k hgeo => ?_⟩,
    fun hlt _ => hn.rises hlt, fun heq => ?_⟩
  · have started : x.Sliding c0 x.destPeriod x.portaRate n 0 := ⟨rfl, rfl, (if_pos hn.pos).symm⟩
    obtain ⟨t, y, run, hy, sliding⟩ := voice_after_ticks
      (P := fun k y => k ≤ n → y.Sliding c0 x.destPeriod x.portaRate n k) hx (fun _ => started)
      (fun k y h hk => (h (Nat.le_of_succ_le hk)).tick hr hn hk ..) k
    obtain ⟨dest, period, rate⟩ := sliding hk
    exact ⟨t, y, run, hy, period, dest, rate⟩
  · exact (hn.descend_le_iff hlt k).1 (Nat.le_of_mul_le_mul_right
      ((descend_mul_pow_le r k c0).trans hgeo) (by positivity))
  · rw [heq] at hn
    exact hn.eq_one

end Sys2Proof.Machine
end

section
/-! PROOFS. RENDER of one voice (44_render.md): silence, the commit, one frame, and the registers it
writes. -/

namespace Sys2Proof.Machine

/-! ## Silence and the commit -/

/-- The voice is off, or its window is open: it is not pending (R15, R151). -/
def Voice.Settled (x : Voice) : Prop := x.on = true → x.committed = true

theorem Voice.render_off {p : Params} {m : Memory} {g : Byte} (n : Nat) {x : Voice}
    (h : x.on = false) : x.render p m g n = (x, List.replicate n 0) := by
  rw [Voice.render, if_neg (by simp [h]), Voice.frames_off n h]

theorem Voice.render_pending {p : Params} {m : Memory} {g : Byte} (n : Nat) {x : Voice}
    (h : x.on = true) (hc : x.committed = false) : x.render p m g n = x.commit.frames p m g n :=
  if_pos ⟨h, hc⟩

theorem Voice.Settled.render_eq_frames {p : Params} {m : Memory} {g : Byte} (n : Nat) {x : Voice}
    (h : x.Settled) : x.render p m g n = x.frames p m g n :=
  if_neg fun ⟨ho, hc⟩ => Bool.false_ne_true (hc.symm.trans (h ho))

/-- Settles O38: a commit with no length is a stop, after which the voice is off; any other commit
leaves a running voice. -/
theorem offVoiceIsSilentAndPendingVoiceCommits :
    Obligations.OffVoiceIsSilentAndPendingVoiceCommits := by
  refine fun p m g n x => ⟨Voice.render_off n, fun ho hc hz => ?_, fun ho hc hnz => ?_⟩
  · rcases x.commit_cases with ⟨-, e⟩ | ⟨hnz, -⟩
    · rw [Voice.render_pending n ho hc, e, Voice.frames_off n (Voice.stop_on _)]
      rfl
    · exact absurd hz hnz
  · rcases x.commit_cases with ⟨hz, -⟩ | ⟨-, e⟩
    · exact absurd hz hnz
    · rw [Voice.render_pending n ho hc, e, Voice.Settled.render_eq_frames n fun _ => rfl]

/-! ## One frame -/

/-- What a frame adds, in the terms of R153, with the fetch of R42 and R43. -/
theorem Voice.mix_eq (p : Params) (m : Memory) (g : Byte) (x : Voice) :
    x.mix p m g = smplRead p m (x.actAddr.toNat + x.pos.toNat / 2 ^ 14) *
      (min x.hwVol.toNat 64 : Nat) * g.toNat := by
  rw [Voice.mix, Voice.fetchAddr, Nat.shiftRight_eq_div_pow]

theorem Voice.advance_inside (x : Voice)
    (h : x.pos.toNat + x.delta.toNat < 2 ^ fracBits * x.actLen.toNat) :
    x.advance = { x with pos := BitVec.ofNat 32 (x.pos.toNat + x.delta.toNat) } :=
  (x.advance_cases.resolve_right fun past => absurd h (Nat.not_lt.2 past.1)).2

theorem Voice.advance_past (x : Voice)
    (h : 2 ^ fracBits * x.actLen.toNat ≤ x.pos.toNat + x.delta.toNat) :
    x.advance = x.wrap (x.pos.toNat + x.delta.toNat - 2 ^ fracBits * x.actLen.toNat) :=
  (x.advance_cases.resolve_left fun inside => absurd inside.1 (Nat.not_lt.2 h)).2

theorem Voice.wrap_stop {x : Voice} (h : x.loopPolicy = .stop) (extra : Nat) :
    x.wrap extra = x.stop := if_pos h

theorem Voice.wrap_empty {x : Voice} (h : x.loopPolicy = .cont) (h0 : x.saveLen = 0) (extra : Nat) :
    x.wrap extra = { x with actAddr := x.saveAddr, actLen := x.saveLen }.stop := by
  rcases x.wrap_cases extra with ⟨hs, -⟩ | ⟨-, -, e⟩ | ⟨-, hne, -⟩
  · exact absurd (h.symm.trans hs) nofun
  · exact e
  · exact absurd h0 hne

/-- The reload of a wrap that goes on: the save window, from the overshoot or from its start where the
overshoot does not fit (R156, R157). -/
def Voice.reload (x : Voice) (extra : Nat) : Voice :=
  { x with
    actAddr := x.saveAddr, actLen := x.saveLen
    pos := BitVec.ofNat 32 (if 2 ^ fracBits * x.saveLen.toNat ≤ extra then 0 else extra) }

theorem Voice.wrap_continue {x : Voice} (h : x.loopPolicy = .cont) (h0 : x.saveLen ≠ 0)
    (extra : Nat) : x.wrap extra = (x.reload extra).countLoop := by
  rcases x.wrap_cases extra with ⟨hs, -⟩ | ⟨-, hz, -⟩ | ⟨-, -, e⟩
  · exact absurd (h.symm.trans hs) nofun
  · exact absurd hz h0
  · exact e

theorem Voice.countLoop_idle {x : Voice} (h : x.loopPend = false) : x.countLoop = x := by
  simp [Voice.countLoop, h]

theorem Voice.countLoop_last {x : Voice} (h : x.loopPend = true) (h1 : x.loopCnt = 1) :
    x.countLoop = { x with loopPend := false, loopCnt := 0, evLoopDone := true } := by
  rcases x.countLoop_cases with ⟨hp, -⟩ | ⟨-, -, e⟩ | ⟨-, hne, -⟩
  · exact absurd (h.symm.trans hp) nofun
  · exact e
  · exact absurd h1 hne

theorem Voice.countLoop_more {x : Voice} (h : x.loopPend = true) (h1 : x.loopCnt ≠ 1) :
    x.countLoop = { x with loopCnt := x.loopCnt - 1 } := by
  rcases x.countLoop_cases with ⟨hp, -⟩ | ⟨-, heq, -⟩ | ⟨-, -, e⟩
  · exact absurd (h.symm.trans hp) nofun
  · exact absurd heq h1
  · exact e

/-- Settles O39: a frame is one `mix` and one `advance`, which stays inside, stops, or wraps. -/
theorem runningVoiceRendersOneFrame : Obligations.RunningVoiceRendersOneFrame := by
  intro p m g x ho hc _
  rw [Voice.render_one ho hc]
  dsimp only
  have loops {extra : Nat} (hp : x.loopPolicy = .cont) (h0 : x.saveLen ≠ 0) {y : Voice}
      (hy : (x.reload extra).countLoop = y) : x.wrap extra = y :=
    (Voice.wrap_continue hp h0 _).trans hy
  refine ⟨congrArg (fun a => [a]) (x.mix_eq p m g), x.advance_inside,
    fun h hp => ?_, fun h hp h0 => ?_, fun h hp h0 hl => ?_,
    fun h hp h0 hl h1 => ?_, fun h hp h0 hl h1 => ?_⟩ <;> rw [x.advance_past h]
  · exact Voice.wrap_stop hp _
  · exact Voice.wrap_empty hp h0 _
  · exact loops hp h0 (Voice.countLoop_idle hl)
  · exact loops hp h0 (Voice.countLoop_last hl h1)
  · exact loops hp h0 (Voice.countLoop_more hl h1)

/-! ## The registers RENDER writes -/

theorem Voice.commit_on {x : Voice} (h : x.commit.on = true) : x.on = true := by
  rcases x.commit_cases with ⟨-, e⟩ | ⟨-, e⟩ <;> rw [e] at h
  · exact absurd h nofun
  · exact h

theorem Voice.render_on {p : Params} {m : Memory} {g : Byte} {n : Nat} {x : Voice}
    (h : (x.render p m g n).1.on = true) : x.on = true :=
  Voice.render_keeps (P := fun y => y.on = true → x.on = true)
    (fun _ hy hc => hy (Voice.commit_on hc)) (fun _ _ hy ha => hy (Voice.advance_on ha).1)
    p m g n id h

/-- Settles O51: RENDER's frame of a voice, and that neither a commit nor a frame switches a voice on. -/
theorem renderChangesNoMacroRegister : Obligations.RenderChangesNoMacroRegister := by
  intro n s t h
  rcases execRender_cases n s with ⟨-, e⟩ | ⟨-, e⟩
  · cases e.symm.trans h
    refine ⟨rfl, rfl, fun k x y hx hy => ?_⟩
    cases hx.symm.trans hy
    exact ⟨rfl, id⟩
  · cases e.symm.trans h
    refine ⟨rfl, List.length_map .., fun k x y hx hy => ?_⟩
    rw [List.getElem?_map, hx] at hy
    cases hy
    exact ⟨Voice.render_frame .., Voice.render_on⟩

end Sys2Proof.Machine
end

section
/-! PROOFS. RENDER of all voices (44_render.md). A RENDER of at least one frame is `State.play`, whose
channels are the narrowed sums of what their voices add, so that the splitting and the bound on an
accumulator come from those of one voice. -/

namespace Sys2Proof.Machine

/-! ## The sums in the accumulators -/

/-- What frame `f` of the voices `xs` routed to channel `c` adds up to (R153), the first of `xs` being
voice 0. -/
def frameSum (p : Params) (m : Memory) (g : Byte) (n : Nat) (xs : List Voice) (c f : Nat) : Int :=
  ((xs.zipIdx.filter fun xv => p.routeOf xv.2 = c).map
    fun xv => ((xv.1.render p m g n).2[f]?).getD 0).sum

/-- Adding rows one after the other is adding, frame by frame, the sum of what each row has there. -/
theorem foldl_addFrames {α : Type} {row : α → List Int} {n : Nat} (hrow : ∀ x, (row x).length = n)
    (xs : List α) {acc : List Int} (hacc : acc.length = n) :
    xs.foldl (fun r x => addFrames (row x) r) acc =
      (List.range n).map fun f => (acc[f]?).getD 0 + (xs.map fun x => ((row x)[f]?).getD 0).sum := by
  induction xs generalizing acc with
  | nil => exact List.ext_getElem (by simp [hacc]) fun f (h : f < acc.length) _ => by simp [h]
  | cons x xs ih =>
    rw [List.foldl_cons, ih (by simp [hacc, hrow])]
    refine List.map_congr_left fun f hf => ?_
    have hf : f < n := List.mem_range.1 hf
    simp [addFrames, hf, hacc, hrow, add_assoc]

/-- The accumulators of a RENDER: every frame of every channel is its sum (R150, R153). -/
theorem renderVoices_zero (p : Params) (m : Memory) (g : Byte) (n : Nat) (xs : List Voice)
    (nchan : Nat) :
    (renderVoices p m g n 0 xs (zeroAccumulators nchan n)).2 =
      (List.range nchan).map fun c => (List.range n).map (frameSum p m g n xs c) := by
  refine List.ext_getElem? fun c => ?_
  by_cases h : c < nchan
  · rw [renderVoices_row]
    simp only [zeroAccumulators, List.getElem?_replicate, h, if_true, Option.map_some,
      List.getElem?_map, List.getElem?_range]
    rw [foldl_addFrames (fun _ => Voice.render_length ..) _ (List.length_replicate ..)]
    refine congrArg some (List.map_congr_left fun f hf => ?_)
    simp [List.mem_range.1 hf, frameSum]
  · simp [renderVoices_row, zeroAccumulators, h]

/-- Channel `c` of a RENDER of `n` frames (R150). -/
def State.channel (s : State) (n c : Nat) : List Int := (List.range n).map fun f =>
  narrow s.params.pcmBits (frameSum s.params s.smpl s.glob.masterVol n s.voices c f)

/-- The state after a RENDER of `n` frames, for `n` at least 1 (R150). -/
def State.play (s : State) (n : Nat) : State :=
  { s with
    voices := s.voices.map fun x => (x.render s.params s.smpl s.glob.masterVol n).1
    response := 0
    out := (List.range s.nvoices).map (s.channel n) }

theorem exec_render {n : BitVec 24} (h : n ≠ 0) (s : State) :
    exec (.render n) s = .next (s.play n.toNat) := by
  rcases execRender_cases n s with ⟨h0, -⟩ | ⟨-, e⟩
  · exact absurd h0 h
  · refine e.trans ?_
    rw [renderVoices_zero, List.map_map, State.play]
    simp only [Function.comp_def, List.map_map]
    rfl

/-- Settles O37: `State.play`, with its sums written out. -/
theorem renderWritesNarrowedSums : Obligations.RenderWritesNarrowedSums :=
  fun s _ h => ⟨decode_packWord_global .., exec_render h s⟩

/-! ## Splitting a RENDER -/

theorem Voice.Settled.advance {x : Voice} (h : x.Settled) : x.advance.Settled := fun ho =>
  (Voice.advance_on ho).2.trans (h (Voice.advance_on ho).1)

theorem Voice.settled_commit (x : Voice) : x.commit.Settled := by
  rcases x.commit_cases with ⟨-, e⟩ | ⟨-, e⟩ <;> rw [e]
  · exact nofun
  · exact fun _ => rfl

/-- RENDER commits a pending voice first, so its frames are those of a voice that is not pending, the
same one for any number of frames (R151, R152). -/
theorem Voice.exists_settled_frames (x : Voice) :
    ∃ y : Voice, y.Settled ∧ ∀ p m g n, x.render p m g n = y.frames p m g n := by
  by_cases h : x.on = true ∧ x.committed = false
  · exact ⟨x.commit, x.settled_commit, fun _ _ _ n => Voice.render_pending n h.1 h.2⟩
  · have settled : x.Settled := fun ho => by simpa [ho] using h
    exact ⟨x, settled, fun _ _ _ n => settled.render_eq_frames n⟩

theorem Voice.Settled.frames {x : Voice} (h : x.Settled) (p : Params) (m : Memory) (g : Byte)
    (n : Nat) : (x.frames p m g n).1.Settled :=
  h.render_eq_frames n ▸
    Voice.render_keeps (fun y _ => y.settled_commit) (fun _ _ hy => hy.advance) p m g n h

/-- RENDER of one voice comes in any two parts, since its first part leaves no pending voice (R159). -/
theorem Voice.render_add (p : Params) (m : Memory) (g : Byte) (a b : Nat) (x : Voice) :
    x.render p m g (a + b) = (((x.render p m g a).1.render p m g b).1,
      (x.render p m g a).2 ++ ((x.render p m g a).1.render p m g b).2) := by
  obtain ⟨y, hy, e⟩ := x.exists_settled_frames
  rw [e, e, (hy.frames p m g a).render_eq_frames b, Voice.frames_add]

/-- The first part of a RENDER's frames sum as if it were the whole (R159). -/
theorem frameSum_first (p : Params) (m : Memory) (g : Byte) {a f : Nat} (b : Nat) (xs : List Voice)
    (c : Nat) (h : f < a) : frameSum p m g (a + b) xs c f = frameSum p m g a xs c f := by
  refine congrArg List.sum (List.map_congr_left fun xv _ => ?_)
  rw [Voice.render_add, List.getElem?_append_left (by simpa using h)]

/-- The later frames sum as those of a RENDER of the voices the first part leaves (R159). -/
theorem frameSum_second (p : Params) (m : Memory) (g : Byte) (a b : Nat) (xs : List Voice)
    (c f : Nat) :
    frameSum p m g (a + b) xs c (a + f) =
      frameSum p m g b (xs.map fun x => (x.render p m g a).1) c f := by
  rw [frameSum, frameSum, List.zipIdx_map, List.filter_map, List.map_map]
  refine congrArg List.sum (List.map_congr_left fun xv _ => ?_)
  rw [Voice.render_add, List.getElem?_append_right (by simp)]
  simp

theorem State.channel_add (s : State) (a b c : Nat) :
    s.channel (a + b) c = s.channel a c ++ (s.play a).channel b c := by
  rw [State.channel, List.range_add, List.map_append, List.map_map]
  refine congrArg₂ (· ++ ·) (List.map_congr_left fun f hf => ?_) (List.map_congr_left fun f _ => ?_)
  · rw [frameSum_first _ _ _ _ _ _ (List.mem_range.1 hf)]
  · rw [Function.comp_apply, frameSum_second]
    rfl

theorem State.play_add (s : State) (a b : Nat) :
    { s.play (a + b) with out := [] } = { (s.play a).play b with out := [] } := by
  simp only [State.play, List.map_map, Voice.render_add, Function.comp_def]

theorem State.play_out {s : State} {n c : Nat} (h : c < s.nvoices) :
    ((s.play n).out[c]?).getD [] = s.channel n c := by
  simp [State.play, h]

/-- RENDER answers 0, whatever the frame count (R67). -/
theorem exec_render_response (n : BitVec 24) (s : State) :
    ∃ t, exec (.render n) s = .next t ∧ t.response = 0 := by
  rcases execRender_cases n s with ⟨-, e⟩ | ⟨-, e⟩ <;> exact ⟨_, e, rfl⟩

/-- RENDER does not read the last response and output. -/
theorem exec_render_respond (n : BitVec 24) (s : State) (r : Word) :
    exec (.render n) (s.respond r) = exec (.render n) s := rfl

/-- Settles O40: a RENDER 0 on either side does nothing, and two parts of at least one frame each add up
on every channel. -/
theorem renderSplitsAtAnyFrame : Obligations.RenderSplitsAtAnyFrame := by
  intro s a b hab
  have zero (s : State) : exec (.render 0) s = .next (s.respond 0) := rfl
  by_cases ha : a = 0
  · obtain ⟨t, ht, -⟩ := exec_render_response b s
    subst ha
    rw [zero_add]
    exact ⟨_, t, t, zero s, (exec_render_respond b s 0).trans ht, ht, rfl, fun _ _ => rfl⟩
  by_cases hb : b = 0
  · obtain ⟨t, ht, hr⟩ := exec_render_response a s
    subst hb
    rw [add_zero]
    exact ⟨t, _, t, ht, zero t, ht, by rw [← hr]; rfl, fun _ _ => (List.append_nil _).symm⟩
  have add : (a + b).toNat = a.toNat + b.toNat := by rw [BitVec.toNat_add, Nat.mod_eq_of_lt hab]
  have hne : a + b ≠ 0 := fun h => ha (by bv_omega)
  refine ⟨_, _, _, exec_render ha s, exec_render hb _, exec_render hne s, ?_, fun c hc => ?_⟩
  · rw [add]
    exact s.play_add ..
  · have hc' : c < (s.play a.toNat).nvoices := hc.trans_eq (List.length_map ..).symm
    rw [State.play_out hc, State.play_out hc, State.play_out hc', add]
    exact s.channel_add ..

/-! ## Bounds and narrowing -/

theorem abs_smplRead_le (p : Params) (m : Memory) (ea : Nat) : |smplRead p m ea| ≤ 128 := by
  unfold smplRead
  split
  · have := (m.read ea).le_toInt
    have := (m.read ea).toInt_lt
    rw [abs_le]
    constructor <;> omega
  · decide

theorem Voice.abs_mix_le (p : Params) (m : Memory) (g : Byte) (x : Voice) :
    |x.mix p m g| ≤ 2088960 := by
  have volume : (min x.hwVol.toNat volMax : Nat) ≤ 64 := Nat.min_le_right ..
  have master : g.toNat ≤ 255 := Nat.le_of_lt_succ g.isLt
  have sample := abs_smplRead_le p m x.fetchAddr
  calc |x.mix p m g|
      = |smplRead p m x.fetchAddr| * (min x.hwVol.toNat volMax : Nat) * g.toNat := by
        rw [Voice.mix, abs_mul, abs_mul, Nat.abs_cast, Nat.abs_cast]
    _ ≤ 128 * 64 * 255 := by gcongr <;> exact_mod_cast ‹_›
    _ = 2088960 := by norm_num

/-- The bound of one `mix` bounds every frame: a frame of a voice that is off adds 0 (R151). -/
theorem Voice.abs_frames_le {p : Params} {m : Memory} {g : Byte} {n : Nat} {x : Voice} :
    ∀ a ∈ (x.frames p m g n).2, |a| ≤ 2088960 := by
  induction n generalizing x with
  | zero => exact nofun
  | succ n ih =>
    cases ho : x.on with
    | false => simp [Voice.frames_off _ ho]
    | true => simpa [Voice.frames_succ _ ho] using ⟨x.abs_mix_le p m g, ih⟩

theorem Voice.abs_render_le (p : Params) (m : Memory) (g : Byte) (n f : Nat) (x : Voice) :
    |((x.render p m g n).2[f]?).getD 0| ≤ 2088960 := by
  obtain ⟨y, -, e⟩ := x.exists_settled_frames
  rw [e]
  cases h : (y.frames p m g n).2[f]? with
  | none => decide
  | some a => exact Voice.abs_frames_le a (List.mem_of_getElem? h)

theorem abs_sum_le_length_mul {α : Type} {f : α → Int} {k : Int} (xs : List α)
    (h : ∀ x ∈ xs, |f x| ≤ k) :
    |(xs.map f).sum| ≤ xs.length * k := by
  induction xs with
  | nil => simp
  | cons x xs ih =>
    have ⟨hx, hxs⟩ := List.forall_mem_cons.1 h
    have split := abs_add_le (f x) (xs.map f).sum
    have rest := ih hxs
    rw [List.map_cons, List.sum_cons, List.length_cons, Nat.cast_succ, add_one_mul]
    omega

theorem abs_frameSum_le (p : Params) (m : Memory) (g : Byte) (n : Nat) (xs : List Voice) (c f : Nat) :
    |frameSum p m g n xs c f| ≤ xs.length * 2088960 := by
  have fed : ((xs.zipIdx.filter fun xv => p.routeOf xv.2 = c).length : Int) ≤ xs.length := by
    exact_mod_cast (List.length_filter_le ..).trans_eq List.length_zipIdx
  calc |frameSum p m g n xs c f|
      ≤ (xs.zipIdx.filter fun xv => p.routeOf xv.2 = c).length * 2088960 :=
        abs_sum_le_length_mul _ fun xv _ => xv.1.abs_render_le ..
    _ ≤ xs.length * 2088960 := by gcongr

theorem narrow_eq_clamp (w : Nat) (a : Int) :
    narrow w a = max (-(2 ^ (w - 1))) (min (2 ^ (w - 1) - 1) (a / 2 ^ (20 - w))) := by
  have pos : (0 : Int) < 2 ^ (w - 1) := by positivity
  rw [narrow, sat_eq_max_min (by push_cast; omega), shiftRight]
  push_cast
  rfl

/-- Settles O41: an accumulator is a sum of at most seven contributions, and `narrow` is a clamp. -/
theorem accumulatorsFitAndNarrowToPcm : Obligations.AccumulatorsFitAndNarrowToPcm := by
  refine ⟨fun p m g x => x.abs_mix_le p m g, fun s n legal row hrow a ha => ?_,
    fun w a _ _ => narrow_eq_clamp w a⟩
  rw [renderVoices_zero] at hrow
  obtain ⟨c, -, rfl⟩ := List.mem_map.1 hrow
  obtain ⟨f, -, rfl⟩ := List.mem_map.1 ha
  have bound := abs_frameSum_le s.params s.smpl s.glob.masterVol n s.voices c f
  rcases legal.voices with h | h <;> rw [State.nvoices] at h <;> rw [h] at bound <;> omega

end Sys2Proof.Machine
end

section
/-! PROOFS. Status, read-back, configuration and reset commands, and the reserved words
(45_status_misc.md). RDREG and RDGLOB answer from one list of register values each, the status word is
the sum of its bits, and a reserved word decodes to NOP. -/

namespace Sys2Proof

/-! ## Reserved words -/

/-- The voice field as a number (R61). -/
theorem toNat_vsField (w : Word) : (vsField w).toNat = w.toNat / 2 ^ 29 := by
  have bound := w.isLt
  rw [vsField, BitVec.extractLsb'_toNat, Nat.shiftRight_eq_div_pow, Nat.mod_eq_of_lt (by omega)]

/-- The op field as a number (R61). -/
theorem toNat_opField (w : Word) : (opField w).toNat = w.toNat / 2 ^ 24 % 32 := by
  rw [opField, BitVec.extractLsb'_toNat, Nat.shiftRight_eq_div_pow]

/-- The voice class has 22 rows (R63). -/
theorem decodeVoice_reserved (v : VoiceSel) {op : BitVec 5} (h : 22 ≤ op.toNat) (x : BitVec 24) :
    decodeVoice v op x = .nop := by
  unfold decodeVoice
  split
  case h_23 => rfl
  all_goals omega

/-- The global class has 8 rows (R64). -/
theorem decodeGlobal_reserved {op : BitVec 5} (h : 8 ≤ op.toNat) (x : BitVec 24) :
    decodeGlobal op x = .nop := by
  unfold decodeGlobal
  split
  case h_9 => rfl
  all_goals omega

theorem decode_of_vsField_ne {w : Word} (h : vsField w ≠ 7) :
    decode w = decodeVoice (vsField w) (opField w) (operandField w) := if_neg h

theorem decode_of_vsField_eq {w : Word} (h : vsField w = 7) :
    decode w = decodeGlobal (opField w) (operandField w) := if_pos h

/-- The low byte of an operand gives the bits that CLREVT and SETCFG read (R172, R176). -/
theorem getLsbD_append_byte (ign : BitVec 16) (b : Byte) {i : Nat} (h : i < 8) :
    (ign ++ b : BitVec 24).getLsbD i = b.getLsbD i := by
  rw [← getLsbD_operandB3 _ h, operandB3_append]

end Sys2Proof

namespace Sys2Proof.Machine

theorem exec_nop (s : State) : exec .nop s = .next { s with response := 0, out := [] } := rfl

theorem exec_render_zero (s : State) :
    exec (.render 0) s = .next { s with response := 0, out := [] } := by
  rcases execRender_cases 0 s with ⟨-, e⟩ | ⟨h, -⟩
  · exact e
  · exact absurd rfl h

/-- A word that selects a voice the instance has not decodes to a command on that voice or, with a
reserved `op`, to NOP; either does nothing (R68). -/
theorem exec_decode_of_absent {w : Word} {s : State} (hv : vsField w ≠ 7)
    (absent : s.nvoices ≤ (vsField w).toNat) :
    exec (decode w) s = .next { s with response := 0, out := [] } := by
  rw [decode_of_vsField_ne hv]
  rcases decodeVoice_voice? (vsField w) (opField w) (operandField w) with voice | nop
  · exact absentVoiceMakesCommandNop _ _ s voice absent
  · rw [nop, exec_nop]

/-- Settles O4: in both classes a reserved `op` decodes to NOP, and an absent voice makes any row of the
voice class one. -/
theorem reservedWordsExecuteAsNop : Obligations.ReservedWordsExecuteAsNop := by
  intro s w rest hp h
  have global_iff : (vsField w).toNat = 7 ↔ vsField w = 7 := BitVec.toNat_inj (y := 7)
  simp only [← toNat_opField, ← toNat_vsField, ne_eq, global_iff] at h
  rw [step_of_port hp]
  rcases h with ⟨hv, hop⟩ | ⟨hv, hop⟩ | ⟨hv, absent⟩
  · rw [decode_of_vsField_ne hv, decodeVoice_reserved _ hop, exec_nop]
  · rw [decode_of_vsField_eq hv, decodeGlobal_reserved hop, exec_nop]
  · exact exec_decode_of_absent hv absent

/-- Settles O36: RENDER tests for 0 frames before it renders anything. -/
theorem nopAndRenderZeroDoNothing : Obligations.NopAndRenderZeroDoNothing :=
  fun s _ => ⟨decode_packWord_global .., decode_packWord_global .., exec_nop s, exec_render_zero s⟩

/-! ## The status word and the events -/

/-- A status bit put above all bits so far adds its place value. The bound goes along, so that the bits
of a word are added one after the other (R19). -/
theorem toNat_or_statusBit {a : Word} {n j : Nat} (h : a.toNat = n ∧ n < 2 ^ j) (b : Bool) (k : Nat)
    (hj : j ≤ k := by decide) (hk : k < 32 := by decide) :
    (a ||| statusBit b k).toNat = n + b.toNat * 2 ^ k ∧ n + b.toNat * 2 ^ k < 2 ^ (k + 1) := by
  obtain ⟨rfl, bound⟩ := h
  have below : a.toNat < 2 ^ k := bound.trans_le (Nat.pow_le_pow_right two_pos hj)
  have place : b.toNat * 2 ^ k ≤ 1 * 2 ^ k := Nat.mul_le_mul_right _ b.toNat_le
  have fits : 2 ^ k < 2 ^ 32 := Nat.pow_lt_pow_right one_lt_two hk
  refine ⟨?_, by omega⟩
  rw [statusBit, BitVec.toNat_or, BitVec.toNat_ofNat, Nat.mod_eq_of_lt (by omega), Nat.or_comm,
    ← Nat.shiftLeft_eq, ← Nat.shiftLeft_add_eq_or_of_lt below, Nat.add_comm]

/-- The status word is the sum of its bits' place values (R19). -/
theorem Voice.toNat_status (x : Voice) : x.status.toNat =
    x.on.toNat * 2 ^ 0 + x.committed.toNat * 2 ^ 1 + x.loopPend.toNat * 2 ^ 2
      + x.loopPolicy.bit.toNat * 2 ^ 3 + x.evLoopDone.toNat * 2 ^ 4 + x.evStopped.toNat * 2 ^ 5
      + x.vibArmed.toNat * 2 ^ 8 + x.portaArmed.toNat * 2 ^ 9 + x.envArmed.toNat * 2 ^ 10
      + x.aboArmed.toNat * 2 ^ 11 := by
  have s0 : (statusBit x.on 0).toNat = x.on.toNat * 2 ^ 0 ∧ x.on.toNat * 2 ^ 0 < 2 ^ 1 := by
    cases x.on <;> decide
  have s1 := toNat_or_statusBit s0 x.committed 1
  have s2 := toNat_or_statusBit s1 x.loopPend 2
  have s3 := toNat_or_statusBit s2 x.loopPolicy.bit 3
  have s4 := toNat_or_statusBit s3 x.evLoopDone 4
  have s5 := toNat_or_statusBit s4 x.evStopped 5
  have s8 := toNat_or_statusBit s5 x.vibArmed 8
  have s9 := toNat_or_statusBit s8 x.portaArmed 9
  have s10 := toNat_or_statusBit s9 x.envArmed 10
  exact (toNat_or_statusBit s10 x.aboArmed 11).1

theorem LoopPolicy.toNat_bit_mul (l : LoopPolicy) (n : Nat) :
    l.bit.toNat * n = if l = .stop then n else 0 := by
  cases l <;> simp [LoopPolicy.bit]

/-- An effect is armed while its register is not 0 (R18). -/
theorem toNat_bne_zero_mul {w : Nat} (r : BitVec w) (n : Nat) :
    (r != 0).toNat * n = if r = 0 then 0 else n := by
  by_cases h : r = 0
  · simp [h]
  · rw [bne_iff_ne.2 h, if_neg h, Bool.toNat_true, one_mul]

/-- Settles O42: the read answers the status word, the sum of its bits. -/
theorem rdStatAnswersStatusWord : Obligations.RdStatAnswersStatusWord := by
  intro s v x ign h
  refine ⟨fun hv => decode_packWord_voice hv .., x.status, readVoice_present h, ?_⟩
  rw [x.toNat_status, LoopPolicy.toNat_bit_mul, Voice.vibArmed, Voice.portaArmed, Voice.envArmed,
    Voice.aboArmed]
  simp only [toNat_bne_zero_mul]
  norm_num

/-- Settles O43: a mask bit that is set clears its event, and one that is not keeps it. -/
theorem clrEvtClearsNamedEvents : Obligations.ClrEvtClearsNamedEvents := by
  intro s v x ign mask h
  have cleared (event named : Bool) : (event && !named) = if named then false else event := by
    cases named <;> simp
  refine ⟨fun hv => ?_, fun l e => ?_⟩
  · rw [decode_packWord_voice hv]
    exact congrArg₂ (Instr.clrevt v) (getLsbD_append_byte ign mask (by decide))
      (getLsbD_append_byte ign mask (by decide))
  · rw [← cleared, ← cleared]
    exact onVoice_present h

/-! ## Reading registers -/

theorem respUnsigned_eq_ofInt {n : Nat} (r : BitVec n) : respUnsigned r = BitVec.ofInt 32 r.toNat :=
  (BitVec.ofInt_natCast ..).symm

theorem ofInt_getD_past {l : List Int} {k : Nat} (h : l.length ≤ k) :
    BitVec.ofInt 32 ((l[k]?).getD 0) = 0 := by
  rw [List.getElem?_eq_none h]
  rfl

/-- The values of the voice's registers, in the order of R13. -/
def Voice.registers (x : Voice) : List Int :=
  [x.curPeriod.toNat, x.destPeriod.toNat, x.portaRate.toNat, x.vibPeriod.toNat, x.vibPhase.toNat,
    x.vibWidth.toInt, x.vibOffset.toInt, x.envRate.toNat, x.envReset.toNat, x.envCount.toNat,
    x.envTarget.toNat, x.curVol.toNat, x.curAddr.toNat, x.curLen.toNat, x.saveAddr.toNat,
    x.saveLen.toNat, x.aboDelta.toInt, x.aboReset.toNat, x.aboCount.toNat, x.actAddr.toNat,
    x.actLen.toNat, x.pos.toNat, x.delta.toNat, x.hwVol.toNat, x.loopCnt.toNat]

/-- RDREG's table is the list of register values, and 0 past its end (R173). -/
theorem Voice.readReg_eq (x : Voice) (idx : Byte) :
    x.readReg idx = BitVec.ofInt 32 ((x.registers[idx.toNat]?).getD 0) := by
  unfold Voice.readReg
  split
  case h_26 =>
    have past : 25 ≤ idx.toNat := by
      simp only [imp_false] at *
      omega
    exact (ofInt_getD_past (l := x.registers) past).symm
  all_goals
    rename_i h
    simp [h, Voice.registers, respUnsigned_eq_ofInt, respSigned]

/-- Settles O44: the read answers from RDREG's table. -/
theorem rdRegAnswersRegisterByIndex : Obligations.RdRegAnswersRegisterByIndex := by
  intro s v x ign idx h
  refine ⟨fun hv => ?_, ?_⟩
  · exact (decode_packWord_voice hv ..).trans (congrArg (Instr.rdreg v) (operandB3_append ign idx))
  · have effect : exec (.rdreg v idx) s = _ := readVoice_present h
    rw [effect, x.readReg_eq]
    rfl

/-- The values of the global registers, in the order of R25, and NVOICES (R174). -/
def State.globalRegisters (s : State) : List Int :=
  [s.glob.masterVol.toNat, s.glob.fadeSlope.toInt, s.glob.fadeTarget.toNat, s.glob.fadeReset.toNat,
    s.glob.fadeCount.toNat, s.glob.noAddBeg.toNat, s.nvoices]

/-- RDGLOB's table is the list of the global registers' values, and 0 past its end (R174). -/
theorem State.readGlob_eq (s : State) (idx : Byte) :
    s.readGlob idx = BitVec.ofInt 32 ((s.globalRegisters[idx.toNat]?).getD 0) := by
  unfold State.readGlob
  split
  case h_8 =>
    have past : 7 ≤ idx.toNat := by
      simp only [imp_false] at *
      omega
    exact (ofInt_getD_past (l := s.globalRegisters) past).symm
  all_goals
    rename_i h
    simp [h, State.globalRegisters, respUnsigned_eq_ofInt, respSigned]

/-- Settles O45: the command answers from RDGLOB's table. -/
theorem rdGlobAnswersGlobalByIndex : Obligations.RdGlobAnswersGlobalByIndex := by
  intro s ign idx
  have effect : exec (.rdglob idx) s = .next (s.respond (s.readGlob idx)) := rfl
  refine ⟨?_, ?_⟩
  · exact (decode_packWord_global ..).trans (congrArg Instr.rdglob (operandB3_append ign idx))
  · rw [effect, s.readGlob_eq]
    rfl

/-! ## Reset and configuration -/

/-- After reset every register of a voice reads 0 (R33). -/
theorem Voice.readReg_reset (idx : Byte) : Voice.reset.readReg idx = 0 := by
  have zeros : Voice.reset.registers = List.replicate 25 0 := by decide
  rw [Voice.readReg_eq, zeros, List.getElem?_replicate]
  split <;> rfl

/-- Settles O46: the next state is the power-on state but for the port, and its voices are all the reset
voice. -/
theorem resetRestoresPowerOnState : Obligations.ResetRestoresPowerOnState := by
  intro s ign
  refine ⟨decode_packWord_global .., { State.powerOn s.params s.nvoices s.smpl with port := s.port },
    rfl, rfl, rfl, rfl, rfl, ?_, rfl, rfl, rfl, rfl, rfl, rfl, rfl, fun x hx => ?_⟩
  · exact List.length_replicate
  · obtain rfl : x = Voice.reset := List.eq_of_mem_replicate hx
    exact ⟨Voice.readReg_reset, rfl, rfl, rfl, rfl, rfl, rfl⟩

/-- Settles O47: the operand's bit 0 is NOADDBEG, the one global the command writes. -/
theorem setCfgWritesNoAddBeg : Obligations.SetCfgWritesNoAddBeg :=
  fun _ ign b => ⟨(decode_packWord_global ..).trans
    (congrArg Instr.setcfg (getLsbD_append_byte ign b (by decide))), fun _ => rfl⟩

end Sys2Proof.Machine
end

section
/-! PROOFS. Completion and independence (60_exceptions.md R180, R195): every command has a next state,
and what a command does at one voice, to the globals and on a channel that no other voice feeds is the
same in two instances that agree there. -/

namespace Sys2Proof.Machine

/-! ## Completion -/

theorem exec_completes (i : Instr) (s : State) : ∃ t, exec i s = .next t := by
  cases hi : i.voice? with
  | some v =>
    obtain ⟨r, e⟩ := exec_voice s hi
    exact ⟨_, e⟩
  | none =>
    cases i <;> cases hi
    case none.render.refl n =>
      obtain ⟨t, e, -⟩ := exec_render_response n s
      exact ⟨t, e⟩
    all_goals exact ⟨_, rfl⟩

theorem exec_completes_port (i : Instr) (s : State) : ∃ t, exec i s = .next t ∧ t.port = s.port := by
  obtain ⟨t, ht⟩ := exec_completes i s
  obtain ⟨-, -, -, hp⟩ := exec_frame ht
  exact ⟨t, ht, hp⟩

/-- Settles O8: a command completes and keeps the port; a step is idle, or a command after its word has
left the port. -/
theorem everyCommandCompletes : Obligations.EveryCommandCompletes := by
  refine ⟨exec_completes_port, fun s => ?_⟩
  cases hp : s.port with
  | nil => exact ⟨s, step_idle hp, hp⟩
  | cons w rest => exact step_of_port hp ▸ exec_completes_port (decode w) { s with port := rest }

/-! ## What a voice-class command answers -/

/-- What a voice-class command answers of a voice the instance has (R80, R171, R173). -/
def voiceAnswer : Instr → Voice → Word
  | .rdstat _, x => x.status
  | .rdreg _ j, x => x.readReg j
  | _, _ => 0

theorem readVoice_eq_answer (v : VoiceSel) (f : Voice → Word) (s : State) :
    readVoice v f s =
      .next { s with response := (s.voices[v.toNat]?.map f).getD 0, out := [] } := by
  cases h : s.voices[v.toNat]? with
  | none => exact readVoice_absent h
  | some x => exact readVoice_present h

/-- The whole next state of a voice-class command: its response, too, depends on its own voice alone. -/
theorem exec_voice_answer {i : Instr} {v : VoiceSel} (s : State) (h : i.voice? = some v) :
    exec i s = .next { s with
      voices := s.voices.modify v.toNat (voiceUpdate s.glob.noAddBeg i)
      response := (s.voices[v.toNat]?.map (voiceAnswer i)).getD 0, out := [] } := by
  have read (u : VoiceSel) (f : Voice → Word) : readVoice u f s = .next { s with
      voices := s.voices.modify u.toNat id
      response := (s.voices[u.toNat]?.map f).getD 0, out := [] } := by
    rw [readVoice_eq_answer, List.modify_id]
  have write (u : VoiceSel) (f : Voice → Voice) : onVoice u f s = .next { s with
      voices := s.voices.modify u.toNat f
      response := (s.voices[u.toNat]?.map fun _ => 0).getD 0, out := [] } := by
    rw [onVoice_eq_modify]
    cases s.voices[u.toNat]? <;> rfl
  cases i <;> cases h
  case rdstat => exact read ..
  case rdreg => exact read ..
  all_goals exact write ..

/-! ## Two instances alike at a voice -/

/-- `s` and `s'` agree on everything a command reads except the registers of voices other than `v`. -/
structure State.AlikeAt (v : Nat) (s s' : State) : Prop where
  params : s.params = s'.params
  smpl : s.smpl = s'.smpl
  glob : s.glob = s'.glob
  nvoices : s.nvoices = s'.nvoices
  voice : s.voices[v]? = s'.voices[v]?

/-- Filtering a list by position reads the list only at the positions kept. -/
theorem filter_zipIdx_congr {α : Type} {keep : Nat → Bool} {xs ys : List α} {k : Nat}
    (hlen : xs.length = ys.length)
    (h : ∀ j < xs.length, keep (k + j) = true → xs[j]? = ys[j]?) :
    (xs.zipIdx k).filter (fun xj => keep xj.2) = (ys.zipIdx k).filter fun xj => keep xj.2 := by
  induction xs generalizing k ys with
  | nil => rw [List.length_eq_zero_iff.1 hlen.symm]
  | cons x xs ih =>
    obtain ⟨y, ys, rfl⟩ := List.exists_cons_of_length_eq_add_one hlen.symm
    have rest := ih (k := k + 1) (Nat.succ.inj hlen) fun j hj hk => by
      simpa using h (j + 1) (Nat.succ_lt_succ hj) (by rwa [Nat.add_right_comm] at hk)
    rw [List.zipIdx_cons, List.zipIdx_cons, List.filter_cons, List.filter_cons, rest]
    split
    · next hk => rw [Option.some.inj (h 0 (Nat.succ_pos _) hk)]
    · rfl

/-- A channel that no voice but `v` feeds sounds alike (R159). -/
theorem State.AlikeAt.channel {v c : Nat} {s s' : State} (h : s.AlikeAt v s')
    (hc : ∀ u < s.nvoices, s.params.routeOf u = c → u = v) (n : Nat) :
    s.channel n c = s'.channel n c := by
  have fed : (s.voices.zipIdx.filter fun xv => s.params.routeOf xv.2 = c) =
      s'.voices.zipIdx.filter fun xv => s.params.routeOf xv.2 = c :=
    filter_zipIdx_congr (keep := fun u => s.params.routeOf u = c) h.nvoices fun u hu hk => by
      rw [Nat.zero_add, decide_eq_true_eq] at hk
      rw [hc u hu hk, h.voice]
  simp only [State.channel, frameSum, fed, ← h.params, ← h.smpl, ← h.glob]

/-- RENDER of two instances alike at `v`. -/
theorem State.AlikeAt.play {v : Nat} {s s' : State} (h : s.AlikeAt v s') (n : Nat) :
    (s.play n).voices[v]? = (s'.play n).voices[v]? ∧
      ∀ c, (∀ u < s.nvoices, s.params.routeOf u = c → u = v) →
        (s.play n).out[c]? = (s'.play n).out[c]? := by
  refine ⟨?_, fun c hc => ?_⟩
  · simp only [State.play, List.getElem?_map, h.voice, h.params, h.smpl, h.glob]
  · simp only [State.play, List.getElem?_map, h.nvoices]
    by_cases hn : c < s'.nvoices
    · simp only [List.getElem?_range hn, Option.map_some, h.channel hc]
    · simp [hn]

/-- Settles O54: a command's write to voice `v`, to the globals and to the response is a function of what
the two instances share, and so is a channel fed by `v` alone. -/
theorem voicesDoNotObserveEachOther : Obligations.VoicesDoNotObserveEachOther := by
  intro i s s' t t' v hp hm hg hn hv h h'
  have alike : s.AlikeAt v s' := ⟨hp, hm, hg, hn, hv⟩
  cases hi : i.voice? with
  | some u =>
    rw [exec_voice_answer _ hi] at h h'
    cases h
    cases h'
    refine ⟨?_, hg, fun own => ?_, fun _ _ => rfl⟩
    · simp only [List.getElem?_modify, hv, hg]
    · simp only [own u rfl, hv]
  | none =>
    cases i <;> cases hi
    case none.tick.refl =>
      rw [exec_tick] at h h'
      cases h
      cases h'
      refine ⟨?_, congrArg Globals.fadeStage hg, fun _ => rfl, fun _ _ => rfl⟩
      simp only [List.getElem?_map, hv, hp, hg]
    case none.render.refl n =>
      by_cases h0 : n = 0
      · subst h0
        rw [exec_render_zero] at h h'
        cases h
        cases h'
        exact ⟨hv, hg, fun _ => rfl, fun _ _ => rfl⟩
      · rw [exec_render h0] at h h'
        cases h
        cases h'
        obtain ⟨voice, out⟩ := alike.play n.toNat
        exact ⟨voice, hg, fun _ => rfl, out⟩
    case none.rdglob.refl j =>
      cases h
      cases h'
      refine ⟨hv, hg, fun _ => ?_, fun _ _ => rfl⟩
      simp only [State.respond_response, State.readGlob, hg, hn]
    case none.reset.refl =>
      cases h
      cases h'
      refine ⟨?_, rfl, fun _ => rfl, fun _ _ => rfl⟩
      simp only [State.powerOn, hn]
    all_goals
      cases h
      cases h'
      refine ⟨hv, ?_, fun _ => rfl, fun _ _ => rfl⟩
      simp only [State.respond_glob, hg]

end Sys2Proof.Machine
end
